-- ==== Sys2Proof/Word.lean ====
section
/-! DEFINITION. The word types of the SG416: bytes and 32-bit bus words (00_scope.md 1.5 and 1.6), and the
numbers of its ports, streams and pace lines (00_scope.md 1.7). -/

namespace Sys2Proof

/-- One byte, as on the management port or as one lane of a beat. -/
abbrev Byte := BitVec 8

/-- One 32-bit word: a beat's data, an address, a count such as P or C, or a CRC register. -/
abbrev Word := BitVec 32

/-- An initiator port number, UP0 to UP3. -/
abbrev PortId := Fin 4

/-- A stream number, 0 to 15. -/
abbrev StreamId := Fin 16

/-- A pace line number, PACE0 to PACE7. -/
abbrev LineId := Fin 8

end Sys2Proof
end

