-- ==== Sys2Proof/Config.lean ====
section
/-! DEFINITION. What the part fixes by number (the capacities of Table 1-4, the reset values of the CRC function,
the alert mask and the timebase), and the one FREE VALUE of the model: an order the spec leaves open. -/

namespace Sys2Proof.Config

/-- R142 to R144: the queue appends a notice while it holds at most this many records. -/
def queueRoom : Nat := 30

/-- R135: a segment holds at most 16 beats. -/
def segmentBeats : Nat := 16

/-- R113: the polynomial after either reset. -/
def defaultPolynomial : Word := 0x04C11DB7#32

/-- R113: the initial value after either reset. -/
def defaultInitial : Word := 0xFFFFFFFF#32

/-- R147, R165: the alert mask after either reset (LOST, MISMATCH, MEMFAULT, OVERRUN, UNDERRUN). -/
def defaultMask : BitVec 16 := 0x9806#16

/-- R159: the timebase divider after either reset. -/
def defaultDivider : Nat := 16

/-- R6, R100: the largest number of frames an extension or a budget carries. -/
def maxBudget : Nat := 16777215

/-- FREE VALUE (log entry 10). R108: when the consume that empties the delivery list also passes the drain test and
a consumer frame start is deferred behind it, "either may be taken first". The n-th such meeting takes the deferred
beat first when this is true, the drain completion first when it is false. It has no body: no proof can see which. -/
opaque deferredFirst : Nat → Bool

end Sys2Proof.Config
end

