-- ==== Sys2Proof/Syntax.lean ====
section
/-! DEFINITION. The commands the SG416 takes from outside: one constructor of Instr per row of
spec/opcode_table.json, with the operands the row's rules give it. -/

namespace Sys2Proof

/-- R21: the direction of a request. -/
inductive Dir where
  | read
  | write
deriving DecidableEq, Repr

/-- The status of a beat or of a completion (Table 1-2, Response). -/
inductive BusStatus where
  | okay
  | error
deriving DecidableEq, Repr

/-- R163: the 28-byte descriptor as it arrives in the argument bytes of OPEN, each field with the width of its
encoding and the value exactly as received (R13: the part does not round, align or clip any field). -/
structure RawDescriptor where
  base : Word
  channels : Byte
  sampleBytes : Byte
  depth : BitVec 16
  producerPort : Byte
  consumerPort : Byte
  observerPolicy : Byte
  fullPolicy : Byte
  stallLimit : Byte
  emptyPolicy : Byte
  waitLimit : Byte
  fillMode : Byte
  fillWord : Word
  restartLevel : BitVec 16
  autoResume : Byte
  spanLength : BitVec 16
  budget : BitVec 24
deriving DecidableEq, Repr

/-- R151: an edge of SCK. At a rising edge the part samples MOSI; after a falling edge it changes MISO. -/
inductive SckEdge where
  | rising (mosi : Bool)
  | falling
deriving DecidableEq, Repr

/-- The commands, one per row of the table. The fourteen rows that are management commands carry the bytes of
their command frame (R156), the target byte among them even where it is ignored; they stand for the instant the last byte of that
frame is received (R152). The other rows are events at the pins, the buses and the timers. -/
inductive Instr where
  /-- POWER_ON_RESET: PORn goes low. -/
  | powerOnReset
  /-- POWER_ON_RESET_END: PORn rises. -/
  | powerOnResetEnd
  /-- CSN_FALL: CSn falls. -/
  | csnFall
  /-- CSN_RISE: CSn rises. -/
  | csnRise
  /-- OPEN: the target stream and the 28-byte descriptor. -/
  | openStream (target : Byte) (desc : RawDescriptor)
  /-- CLOSE_DRAIN: CLOSE with mode DRAIN. -/
  | closeDrain (target : Byte)
  /-- CLOSE_ABORT: CLOSE with mode ABORT. -/
  | closeAbort (target : Byte)
  /-- EXTEND: the target stream and the number of frames, 24 bits. -/
  | extend (target : Byte) (frames : BitVec 24)
  /-- ACKNOWLEDGE_PRODUCER: ACKNOWLEDGE with side producer. -/
  | acknowledgeProducer (target : Byte)
  /-- ACKNOWLEDGE_CONSUMER: ACKNOWLEDGE with side consumer. -/
  | acknowledgeConsumer (target : Byte)
  /-- STATUS of the target stream. -/
  | status (target : Byte)
  /-- TAKE_NOTICE; the target byte is ignored. -/
  | takeNotice (target : Byte)
  /-- BIND_PACE: the target line, then the stream, the side code and the packet. -/
  | bindPace (line : Byte) (stream : Byte) (side : Byte) (packet : Byte)
  /-- UNBIND_PACE of the target line. -/
  | unbindPace (line : Byte)
  /-- SET_INTEGRITY: the polynomial and the initial value; the target byte is ignored. -/
  | setIntegrity (target : Byte) (polynomial : Word) (initial : Word)
  /-- SET_ALERT_MASK: bit n is the enable of the kind with code n; the target byte is ignored. -/
  | setAlertMask (target : Byte) (mask : BitVec 16)
  /-- SET_TIMEBASE: the new divider; the target byte is ignored. -/
  | setTimebase (target : Byte) (divider : Byte)
  /-- RESET; the target byte is ignored. -/
  | reset (target : Byte)
  /-- UNKNOWN: byte 0 of a transaction carries an unassigned command code. -/
  | unknown (code : Byte)
  /-- REQUEST_TAKEN: an initiator port is offered a request of `beats` beats at byte address `addr`. -/
  | requestTaken (port : PortId) (dir : Dir) (addr : Word) (beats : Nat)
  /-- WRITE_BEAT: an initiator offers the next write data beat, with its 4 byte enables (bit n enables byte n). -/
  | writeBeat (port : PortId) (data : Word) (enables : BitVec 4)
  /-- READ_BEAT: the next read beat of the port's consumer transaction is handed to the Consumer Path. -/
  | readBeat (port : PortId)
  /-- MICROSECOND_TICK: the timebase count reaches the divider. -/
  | microsecondTick
  /-- HOLD_TIMER_EXPIRY: the port's hold timer has reached its limit and the expiry is taken. -/
  | holdTimerExpiry (port : PortId)
  /-- MEMORY_WRITE_COMPLETION: the memory controller completes the write segment on the memory port. -/
  | memoryWriteCompletion (result : BusStatus)
  /-- MEMORY_READ_DATA: the memory controller returns the next beat of the read segment on the memory port. -/
  | memoryReadData (data : Word) (result : BusStatus)
  /-- SCK_EDGE: an edge of SCK. -/
  | sckEdge (edge : SckEdge)
deriving DecidableEq, Repr

end Sys2Proof
end

