-- ==== Sys2Proof/Machine/State.lean ====
section
/-! DEFINITION. The state of the SG416 as plain data: every record, list, register and pin the spec gives its ten
blocks (Table 1-1), the queue of waiting commands, and the values after reset. -/

namespace Sys2Proof.Machine

open Sys2Proof

/-- The block takes no fault: every event of the table has an effect in every state. -/
inductive Fault where
deriving DecidableEq, Repr

/-- The only refusal is the host's: a command with no meaning yet. -/
inductive Refusal where
  /-- Raised by an arm of exec for a command that is not modelled; safe (the machine stops). -/
  | notModelled (mnemonic : String)
deriving DecidableEq, Repr

/-! ## The Stream Table (R1 to R20) -/

/-- R10: the four stream states. -/
inductive StreamState where
  | closed
  | opened
  | draining
  | ended
deriving DecidableEq, Repr

/-- R2, R163: treatment of observers. -/
inductive ObserverPolicy where
  | pass
  | refuse
deriving DecidableEq, Repr

/-- R2, R163: treatment of a producer frame start that finds no room. -/
inductive FullPolicy where
  | absorb
  | stall
deriving DecidableEq, Repr

/-- R2, R163: treatment of a consumer frame start that finds nothing committed. -/
inductive EmptyPolicy where
  | fill
  | wait
deriving DecidableEq, Repr

/-- R2, R163: the content of fill frames. -/
inductive FillMode where
  | zero
  | constant
  | hold
deriving DecidableEq, Repr

/-- R2, R3: a stored descriptor with its derived frame_bytes and body (the body is base to bodyLast). -/
structure Descriptor where
  base : Word
  channels : Nat
  sampleBytes : Nat
  depth : Nat
  producerPort : PortId
  consumerPort : PortId
  observerPolicy : ObserverPolicy
  fullPolicy : FullPolicy
  stallLimit : Nat
  emptyPolicy : EmptyPolicy
  waitLimit : Nat
  fillMode : FillMode
  fillWord : Word
  restartLevel : Nat
  autoResume : Bool
  spanLength : Nat
  budget : Nat
  frameBytes : Nat
  bodyLast : Word
deriving DecidableEq, Repr

/-- R20: the descriptor after reset, 0 in every field and every setting at its first code. -/
def Descriptor.reset : Descriptor :=
  { base := 0#32, channels := 0, sampleBytes := 0, depth := 0, producerPort := 0, consumerPort := 0,
    observerPolicy := .pass, fullPolicy := .absorb, stallLimit := 0, emptyPolicy := .fill, waitLimit := 0,
    fillMode := .zero, fillWord := 0#32, restartLevel := 0, autoResume := false, spanLength := 0, budget := 0,
    frameBytes := 0, bodyLast := 0#32 }

/-- R7: producer phases. -/
inductive ProducerPhase where
  | flowing
  | held
  | overrun
  | done
deriving DecidableEq, Repr

/-- R7: consumer phases. -/
inductive ConsumerPhase where
  | flowing
  | waiting
  | underrun
  | done
deriving DecidableEq, Repr

/-- R7: placement of a side. -/
inductive Placement where
  | inStep
  | lost
deriving DecidableEq, Repr

/-- R39: how the producer's current frame is being treated. -/
inductive Treatment where
  | none
  | place
  | absorb
deriving DecidableEq, Repr

/-- R39: the stage of an in-flight producer frame. -/
inductive FillingStage where
  | filling
  | sealed
deriving DecidableEq, Repr

/-- R39, R47: one entry of the in-flight list. `id` is the identity R47 speaks of ("an entry removed by abandonment
is not the entry appended when the same index is placed again"); it is the model's own number (log entry 4). -/
structure InFlight where
  id : Nat
  index : Word
  slot : Nat
  stage : FillingStage
  outstanding : Nat
deriving DecidableEq, Repr

/-- R39: the producer side of a stream. -/
structure ProducerSide where
  phase : ProducerPhase
  placement : Placement
  position : Nat
  treatment : Treatment
  inFlight : List InFlight
  tally : Word
  nextEntry : Nat
deriving DecidableEq, Repr

/-- R7: the consumer's verdict. -/
inductive Verdict where
  | none
  | real
  | fill
  | lostFill
deriving DecidableEq, Repr

/-- R76: whether HOLD fill reads the held slot or answers with fill_word. -/
inductive HoldSource where
  | slot
  | word
deriving DecidableEq, Repr

/-- R76: the stage of a frame in delivery. -/
inductive ReadingStage where
  | reading
  | sealed
deriving DecidableEq, Repr

/-- R76, R82: one entry of the delivery list; `id` is the model's own identity of the entry (log entry 4). -/
structure Delivery where
  id : Nat
  index : Word
  slot : Nat
  stage : ReadingStage
  faulted : Bool
deriving DecidableEq, Repr

/-- R76: the consumer side of a stream. -/
structure ConsumerSide where
  phase : ConsumerPhase
  placement : Placement
  position : Nat
  verdict : Verdict
  delivery : List Delivery
  tally : Word
  heldSlot : Option Nat
  holdSource : HoldSource
  deliveredOnce : Bool
  nextEntry : Nat
deriving DecidableEq, Repr

/-- R9: the eight event counters, 16 bits each. -/
structure Counters where
  absorbed : BitVec 16
  filled : BitVec 16
  excess : BitVec 16
  producerLosses : BitVec 16
  consumerLosses : BitVec 16
  mismatches : BitVec 16
  voidSpans : BitVec 16
  memoryFaults : BitVec 16
deriving DecidableEq, Repr

/-- R9: all eight counters at 0. -/
def Counters.zero : Counters := ⟨0, 0, 0, 0, 0, 0, 0, 0⟩

/-! ## The Span Check Unit's state for a stream (R114) -/

/-- R114: a producer frame record: the checkpoint and, for the last frame of a span once SEALED, the span's CRC. -/
structure ProducerRecord where
  checkpoint : Word
  spanCrc : Option Word
deriving DecidableEq, Repr

/-- R114: one record of the span queue. -/
structure SpanRecord where
  span : Word
  crc : Word
deriving DecidableEq, Repr

/-- R118: a consumer checkpoint is open until the frame's first data arrives. -/
inductive Checkpoint where
  | unset
  | value (crc : Word)
deriving DecidableEq, Repr

/-- R114: what the unit holds for a stream that is not CLOSED and has spans. -/
structure SpanState where
  producerAcc : Word
  producerRecords : List ProducerRecord
  producerSpan : Word
  queue : List SpanRecord
  consumerAcc : Word
  consumerRecord : Option Checkpoint
  spanVoid : Bool
  consumerSpan : Word
deriving DecidableEq, Repr

/-- R1: a stream record, with the Span Check Unit's state for the stream (R114). `session` counts the accepted OPENs
of the stream (R28); its number is the model's own (log entry 4). -/
structure Stream where
  desc : Descriptor
  state : StreamState
  committed : Word
  consumed : Word
  producerCursor : Nat
  consumerCursor : Nat
  budgetNow : Nat
  extension : Option Nat
  producer : ProducerSide
  consumer : ConsumerSide
  overrunAcked : Bool
  underrunAcked : Bool
  counters : Counters
  span : Option SpanState
  session : Nat
deriving DecidableEq, Repr

/-- The producer fields of R17 and R20, with R39's empty list and treatment NONE. -/
def ProducerSide.fresh : ProducerSide :=
  { phase := .flowing, placement := .inStep, position := 0, treatment := .none, inFlight := [], tally := 0#32,
    nextEntry := 0 }

/-- The consumer fields of R17 and R20, with R76's empty list, hold source WORD and delivered-once clear. -/
def ConsumerSide.fresh : ConsumerSide :=
  { phase := .flowing, placement := .inStep, position := 0, verdict := .none, delivery := [], tally := 0#32,
    heldSlot := none, holdSource := .word, deliveredOnce := false, nextEntry := 0 }

/-- R20: the stream record after either reset. The session number goes on counting (log entry 4). -/
def Stream.reset (session : Nat) : Stream :=
  { desc := Descriptor.reset, state := .closed, committed := 0#32, consumed := 0#32, producerCursor := 0,
    consumerCursor := 0, budgetNow := 0, extension := none, producer := ProducerSide.fresh,
    consumer := ConsumerSide.fresh, overrunAcked := false, underrunAcked := false, counters := Counters.zero,
    span := none, session := session }

/-! ## The initiator ports (R21 to R38) and their segment lists (R135) -/

/-- R28: a stream class binds the transaction to one session of one stream. `fillWord` is that session's fill_word,
which R36 still answers with after the session is closed (log entry 12). -/
structure Binding where
  stream : StreamId
  session : Nat
  fillWord : Word
deriving DecidableEq, Repr

/-- R29: the six classes, and the over-range request of R21, which is not classified. -/
inductive TransactionClass where
  | plain
  | straddle
  | producer (bound : Binding)
  | consumer (bound : Binding)
  | observerPass (bound : Binding)
  | observerRefuse (bound : Binding)
  | overRange
deriving DecidableEq, Repr

/-- R24, R26: a hold: its limit, the timer's count of ticks, and the data of a held write beat. -/
structure Hold where
  limit : Nat
  count : Nat
  data : Word
deriving DecidableEq, Repr

/-- R23: a read response: the beat's data and status. -/
structure Response where
  data : Word
  status : BusStatus
deriving DecidableEq, Repr

/-- R82: the marking a REAL beat carries: the entry it was forwarded for, the frame index, and the last-beat mark. -/
structure RealMark where
  entry : Nat
  frame : Word
  last : Bool
deriving DecidableEq, Repr

/-- R23, R139: a read beat that has been taken and whose response is still owed, in beat order; `value` is the
response once known. -/
structure ResponseSlot where
  beat : Nat
  mark : Option RealMark
  value : Option Response
deriving DecidableEq, Repr

/-- R24: the record of a port's transaction in progress. The port is HELD while `hold` is present. `cls` is absent for
a write whose first data beat has not been taken (R28). `deferred` marks a read whose newest beat is a deferred
frame start (R81). `endedWithError` is set by CLOSE ABORT and reset (R37, R38). -/
structure Transaction where
  dir : Dir
  addr : Word
  beats : Nat
  cls : Option TransactionClass
  position : Nat
  outstanding : Nat
  anyError : Bool
  endedWithError : Bool
  hold : Option Hold
  deferred : Bool
  responses : List ResponseSlot
deriving DecidableEq, Repr

/-- R134: the kind of a segment. -/
inductive SegmentKind where
  | plain
  | pass
  | producer
  | real
  | hold
deriving DecidableEq, Repr

/-- R134: one beat of a segment: its number in the transaction, the write data and byte enables once accepted, and for
stream beats the frame index, the list entry and the last-beat mark. -/
structure SegmentBeat where
  beat : Nat
  data : Option (Word × BitVec 4)
  frame : Word
  entry : Nat
  last : Bool
deriving DecidableEq, Repr

/-- R134: a segment. `binding` is the stream and session of a stream kind. -/
structure Segment where
  kind : SegmentKind
  dir : Dir
  addr : Word
  binding : Option Binding
  beats : List SegmentBeat
deriving DecidableEq, Repr

/-- An initiator port: its record (R24; IDLE while `txn` is absent), its segment list (R135; `newestOpen` says that the
newest segment can still take beats), and what it drives upstream: the read responses returned and the write
completion of its current or last transaction (R23; log entry 5). -/
structure Port where
  txn : Option Transaction
  segments : List Segment
  newestOpen : Bool
  returned : List Response
  completion : Option BusStatus
deriving DecidableEq, Repr

/-- R24: the port record after reset: IDLE, with nothing waiting. -/
def Port.reset : Port :=
  { txn := none, segments := [], newestOpen := false, returned := [], completion := none }

/-! ## The memory port (R134) -/

/-- R134: the segment on the memory port, the port that owns it, the number of its read beats already answered, and the
discarded flag. -/
structure Granted where
  owner : PortId
  segment : Segment
  answered : Nat
  discarded : Bool
deriving DecidableEq, Repr

/-! ## The Pace Unit (R124) -/

/-- A side of a stream. -/
inductive Side where
  | producer
  | consumer
deriving DecidableEq, Repr

/-- R124: UNBOUND, or the state of a bound line. -/
inductive LineState where
  | unbound
  | watching
  | granted
  | inPacket
deriving DecidableEq, Repr

/-- R124: a pace line record. -/
structure Line where
  state : LineState
  stream : StreamId
  side : Side
  packet : Nat
  credit : Nat
deriving DecidableEq, Repr

/-- R124: an UNBOUND record, its fields 0. -/
def Line.reset : Line :=
  { state := .unbound, stream := 0, side := .producer, packet := 0, credit := 0 }

/-! ## The Notice Queue (R141 to R150) -/

/-- R142: the sixteen kinds, in the order of their codes (R165). -/
inductive NoticeKind where
  | started
  | overrun
  | underrun
  | resumed
  | place
  | excess
  | extended
  | produced
  | ended
  | drained
  | aborted
  | mismatch
  | memfault
  | straddle
  | refused
  | lost
deriving DecidableEq, Repr

/-- R141: the side a notice concerns. -/
inductive NoticeSide where
  | none
  | producer
  | consumer
deriving DecidableEq, Repr

/-- R141: a notice record. -/
structure Notice where
  kind : NoticeKind
  sequence : BitVec 8
  subject : Byte
  side : NoticeSide
  value1 : Word
  value2 : Word
deriving DecidableEq, Repr

/-- R141, R143, R147: the Notice Queue: its records (head first), the sequence counter and the alert mask. -/
structure NoticeQueue where
  records : List Notice
  sequence : BitVec 8
  mask : BitVec 16
deriving DecidableEq, Repr

/-! ## The management port (R151) and the timebase (R159) -/

/-- R151: the phases of the management port. -/
inductive SpiPhase where
  | idle
  | summary
  | frame
  | result
  | reject
deriving DecidableEq, Repr

/-- R151: the management port. `frame` holds the command code, the target and the argument bytes received so far, in
order. `bitCount` and `shiftIn` are the bits received of the byte in progress. `outByte` is the byte being shifted
out and `outQueue` the bytes after it. `miso` is the pin, absent while it is high impedance. -/
structure Management where
  phase : SpiPhase
  frame : List Byte
  bitCount : Nat
  shiftIn : Byte
  outByte : Byte
  outQueue : List Byte
  miso : Option Bool
  truncated : Bool
  resetPending : Bool
deriving DecidableEq, Repr

/-- R151, R161: the management port after power-on reset. -/
def Management.reset : Management :=
  { phase := .idle, frame := [], bitCount := 0, shiftIn := 0#8, outByte := 0#8, outQueue := [], miso := none,
    truncated := false, resetPending := false }

/-- R159: the divider of the interval in progress, the divider of the next ones, and the count of REFCLK periods. -/
structure Timebase where
  divider : Nat
  nextDivider : Nat
  count : Nat
deriving DecidableEq, Repr

/-- R159: the timebase after either reset. -/
def Timebase.reset : Timebase :=
  { divider := Config.defaultDivider, nextDivider := Config.defaultDivider, count := 0 }

/-! ## The whole part -/

/-- The state of the SG416. `porHigh` and `csHigh` are the levels of the input pins PORn and CSn. `polynomial` and
`initial` are the Span Check Unit's two values (R112). `memory` is the memory port, FREE while absent (R134), and
`lastGranted` the arbiter's pointer (R138). `choices` counts the free choices made (log entry 10; the model's own).
`pending` is the queue of commands that are waiting. -/
structure State where
  streams : Vector Stream 16
  ports : Vector Port 4
  memory : Option Granted
  lastGranted : PortId
  polynomial : Word
  initial : Word
  lines : Vector Line 8
  queue : NoticeQueue
  spi : Management
  timebase : Timebase
  porHigh : Bool
  csHigh : Bool
  choices : Nat
  pending : List Instr
deriving DecidableEq, Repr

/-- R150: the STARTED notice, the first record after a reset. -/
def startedNotice (value1 : Word) : Notice :=
  { kind := .started, sequence := 0#8, subject := 0#8, side := .none, value1 := value1, value2 := 0#32 }

/-- The machine right after power-on reset has ended (R150): PORn high, every stream CLOSED at the values of R20, every
port IDLE, the memory port FREE, the pointer at UP3, the lines UNBOUND, the Notice Queue holding STARTED with value1
1, the management port IDLE with CSn high (log entry 1), and no command waiting. -/
def State.reset : State :=
  { streams := Vector.replicate 16 (Stream.reset 0)
    ports := Vector.replicate 4 Port.reset
    memory := none
    lastGranted := 3
    polynomial := Config.defaultPolynomial
    initial := Config.defaultInitial
    lines := Vector.replicate 8 Line.reset
    queue := { records := [startedNotice 1#32], sequence := 1#8, mask := Config.defaultMask }
    spi := Management.reset
    timebase := Timebase.reset
    porHigh := true
    csHigh := true
    choices := 0
    pending := [] }

end Sys2Proof.Machine
end

