-- ==== Sys2Proof/Decode.lean ====
section
/-! DEFINITION. The bytes of a management command frame (R152, R156, R163): the decoder the port applies to a complete
frame, and after it the frame of each command row. The opcode table gives no row a bit pattern, so decodeTableWord
answers none for every word. -/

namespace Sys2Proof

/-- No row of spec/opcode_table.json gives bits, so no word spells a command. -/
def decodeTableWord (_nbits _w : Nat) : Option Instr := none

/-- R156: the number of argument bytes of an assigned command code; none for an unassigned code (R155). -/
def argumentBytes (code : Byte) : Option Nat :=
  if code = 0x10#8 then some 28
  else if code = 0x11#8 then some 1
  else if code = 0x12#8 then some 3
  else if code = 0x13#8 then some 1
  else if code = 0x20#8 then some 0
  else if code = 0x21#8 then some 0
  else if code = 0x30#8 then some 3
  else if code = 0x31#8 then some 0
  else if code = 0x40#8 then some 8
  else if code = 0x41#8 then some 2
  else if code = 0x42#8 then some 1
  else if code = 0x50#8 then some 0
  else none

/-- R156: multi-byte values are sent most significant byte first. The n bytes of v. -/
def beBytes : Nat → Nat → List Byte
  | 0, _ => []
  | n + 1, v => BitVec.ofNat 8 (v >>> (8 * n)) :: beBytes n v

/-- R156: the value of bytes received most significant byte first. -/
def beNat (bytes : List Byte) : Nat := bytes.foldl (fun acc b => acc * 256 + b.toNat) 0

/-- The value of the `len` bytes that stand at `offset` of a layout (section 11.5). -/
def fieldAt (bytes : List Byte) (offset len : Nat) : Nat := beNat ((bytes.drop offset).take len)

/-- R163: the descriptor carried in 28 bytes. -/
def RawDescriptor.ofBytes (bytes : List Byte) : RawDescriptor :=
  { base := BitVec.ofNat 32 (fieldAt bytes 0 4)
    channels := BitVec.ofNat 8 (fieldAt bytes 4 1)
    sampleBytes := BitVec.ofNat 8 (fieldAt bytes 5 1)
    depth := BitVec.ofNat 16 (fieldAt bytes 6 2)
    producerPort := BitVec.ofNat 8 (fieldAt bytes 8 1)
    consumerPort := BitVec.ofNat 8 (fieldAt bytes 9 1)
    observerPolicy := BitVec.ofNat 8 (fieldAt bytes 10 1)
    fullPolicy := BitVec.ofNat 8 (fieldAt bytes 11 1)
    stallLimit := BitVec.ofNat 8 (fieldAt bytes 12 1)
    emptyPolicy := BitVec.ofNat 8 (fieldAt bytes 13 1)
    waitLimit := BitVec.ofNat 8 (fieldAt bytes 14 1)
    fillMode := BitVec.ofNat 8 (fieldAt bytes 15 1)
    fillWord := BitVec.ofNat 32 (fieldAt bytes 16 4)
    restartLevel := BitVec.ofNat 16 (fieldAt bytes 20 2)
    autoResume := BitVec.ofNat 8 (fieldAt bytes 22 1)
    spanLength := BitVec.ofNat 16 (fieldAt bytes 23 2)
    budget := BitVec.ofNat 24 (fieldAt bytes 25 3) }

/-- R163: the 28 bytes of a descriptor. -/
def RawDescriptor.toBytes (d : RawDescriptor) : List Byte :=
  beBytes 4 d.base.toNat ++ [d.channels, d.sampleBytes] ++ beBytes 2 d.depth.toNat
    ++ [d.producerPort, d.consumerPort, d.observerPolicy, d.fullPolicy, d.stallLimit, d.emptyPolicy, d.waitLimit,
        d.fillMode]
    ++ beBytes 4 d.fillWord.toNat ++ beBytes 2 d.restartLevel.toNat ++ [d.autoResume]
    ++ beBytes 2 d.spanLength.toNat ++ beBytes 3 d.budget.toNat

/-- R156: the command a complete frame carries, from its code, its target byte and its argument bytes. It is none for a
frame whose CLOSE mode or ACKNOWLEDGE side code names no value (R72, R105: the owning block answers RANGE), and for
a frame of the wrong length, which the port never completes. -/
def decodeFrame (code target : Byte) (args : List Byte) : Option Instr :=
  if argumentBytes code ≠ some args.length then none
  else if code = 0x10#8 then some (.openStream target (RawDescriptor.ofBytes args))
  else if code = 0x11#8 then
    if fieldAt args 0 1 = 0 then some (.closeDrain target)
    else if fieldAt args 0 1 = 1 then some (.closeAbort target)
    else none
  else if code = 0x12#8 then some (.extend target (BitVec.ofNat 24 (fieldAt args 0 3)))
  else if code = 0x13#8 then
    if fieldAt args 0 1 = 0 then some (.acknowledgeProducer target)
    else if fieldAt args 0 1 = 1 then some (.acknowledgeConsumer target)
    else none
  else if code = 0x20#8 then some (.status target)
  else if code = 0x21#8 then some (.takeNotice target)
  else if code = 0x30#8 then
    some (.bindPace target (BitVec.ofNat 8 (fieldAt args 0 1)) (BitVec.ofNat 8 (fieldAt args 1 1))
      (BitVec.ofNat 8 (fieldAt args 2 1)))
  else if code = 0x31#8 then some (.unbindPace target)
  else if code = 0x40#8 then
    some (.setIntegrity target (BitVec.ofNat 32 (fieldAt args 0 4)) (BitVec.ofNat 32 (fieldAt args 4 4)))
  else if code = 0x41#8 then some (.setAlertMask target (BitVec.ofNat 16 (fieldAt args 0 2)))
  else if code = 0x42#8 then some (.setTimebase target (BitVec.ofNat 8 (fieldAt args 0 1)))
  else if code = 0x50#8 then some (.reset target)
  else none

/-- R152, R156: the command frame (byte 0, byte 1 and the argument bytes) of a management command; none for the rows
that are not command frames. -/
def Instr.frame : Instr → Option (List Byte)
  | .openStream target desc => some (0x10#8 :: target :: desc.toBytes)
  | .closeDrain target => some [0x11#8, target, 0#8]
  | .closeAbort target => some [0x11#8, target, 1#8]
  | .extend target frames => some (0x12#8 :: target :: beBytes 3 frames.toNat)
  | .acknowledgeProducer target => some [0x13#8, target, 0#8]
  | .acknowledgeConsumer target => some [0x13#8, target, 1#8]
  | .status target => some [0x20#8, target]
  | .takeNotice target => some [0x21#8, target]
  | .bindPace line stream side packet => some [0x30#8, line, stream, side, packet]
  | .unbindPace line => some [0x31#8, line]
  | .setIntegrity target polynomial initial =>
      some (0x40#8 :: target :: (beBytes 4 polynomial.toNat ++ beBytes 4 initial.toNat))
  | .setAlertMask target mask => some (0x41#8 :: target :: beBytes 2 mask.toNat)
  | .setTimebase target divider => some [0x42#8, target, divider]
  | .reset target => some [0x50#8, target]
  | .powerOnReset => none
  | .powerOnResetEnd => none
  | .csnFall => none
  | .csnRise => none
  | .unknown _ => none
  | .requestTaken _ _ _ _ => none
  | .writeBeat _ _ _ => none
  | .readBeat _ => none
  | .microsecondTick => none
  | .holdTimerExpiry _ => none
  | .memoryWriteCompletion _ => none
  | .memoryReadData _ _ => none
  | .sckEdge _ => none

end Sys2Proof
end

