-- ==== Sys2Proof/WellFormed.lean ====
section
/-! DEFINITION. Which commands can exist at the pins and the buses: the checks the spec puts on a request (R21) and
on the code of an UNKNOWN (R155). Every other operand may take every value of its type (R156: argument bytes are
taken exactly as received). -/

namespace Sys2Proof

/-- R21, Table 1-2: a request's address is a word address (a multiple of 4). -/
def wordAligned (addr : Word) : Bool := addr.toNat % 4 == 0

/-- R21: a request has 1 to 16 beats. -/
def burstLengthOk (beats : Nat) : Bool := 1 ≤ beats && beats ≤ 16

/-- R155: the code names no command. -/
def codeUnassigned (code : Byte) : Bool := (argumentBytes code).isNone

/-- A command that can exist. -/
def Instr.wellFormed : Instr → Bool
  | .requestTaken _ _ addr beats => wordAligned addr && burstLengthOk beats
  | .unknown code => codeUnassigned code
  | .powerOnReset => true
  | .powerOnResetEnd => true
  | .csnFall => true
  | .csnRise => true
  | .openStream _ _ => true
  | .closeDrain _ => true
  | .closeAbort _ => true
  | .extend _ _ => true
  | .acknowledgeProducer _ => true
  | .acknowledgeConsumer _ => true
  | .status _ => true
  | .takeNotice _ => true
  | .bindPace _ _ _ _ => true
  | .unbindPace _ => true
  | .setIntegrity _ _ _ => true
  | .setAlertMask _ _ => true
  | .setTimebase _ _ => true
  | .reset _ => true
  | .writeBeat _ _ _ => true
  | .readBeat _ => true
  | .microsecondTick => true
  | .holdTimerExpiry _ => true
  | .memoryWriteCompletion _ => true
  | .memoryReadData _ _ => true
  | .sckEdge _ => true

end Sys2Proof
end

