-- ==== Sys2Proof/Machine/Operands.lean ====
section
/-! DEFINITION. How the operands of the commands are read and how results are laid out: byte lanes, frame geometry, the
classification range, OPEN's checks on a descriptor, and the byte layouts of section 11.5. -/

namespace Sys2Proof.Machine

open Sys2Proof

/-! ## Beats and addresses -/

/-- Table 1-2: byte n of a beat, byte 0 at the lowest address. Byte n is bits 8n+7 to 8n of the 32-bit data (DESIGN
CHOICE, log entry 3: the spec does not tie a byte lane to data bits). -/
def beatByte (data : Word) (n : Nat) : Byte := data.extractLsb' (8 * n) 8

/-- The 4 bytes of a beat in ascending address order (R115, R118). -/
def beatBytes (data : Word) : List Byte := [beatByte data 0, beatByte data 1, beatByte data 2, beatByte data 3]

/-- R22: all 4 byte enables are set. -/
def fullBeat (enables : BitVec 4) : Bool := enables == 0xF#4

/-- R21: the address of beat k of a request, as a number (a request never wraps). -/
def beatAddress (addr : Word) (k : Nat) : Nat := addr.toNat + 4 * k

/-- R21: the last beat would lie above 0xFFFF_FFFF. -/
def overRange (addr : Word) (beats : Nat) : Bool := 2 ^ 32 ≤ beatAddress addr (beats - 1)

/-- R3: the address of the beat at `offset` of a slot. -/
def slotAddress (d : Descriptor) (slot offset : Nat) : Word :=
  BitVec.ofNat 32 (d.base.toNat + slot * d.frameBytes + offset)

/-- Table 1-2: the offset in frame of an address inside the body. -/
def offsetInFrame (d : Descriptor) (address : Nat) : Nat := (address - d.base.toNat) % d.frameBytes

/-- The beat at this offset is its frame's last (R46 to R48, R82). -/
def lastOffset (d : Descriptor) (offset : Nat) : Bool := offset + 4 == d.frameBytes

/-- The position after the beat at `offset` of the current frame (R46, R47, R77). -/
def nextPosition (d : Descriptor) (offset : Nat) : Nat := if lastOffset d offset then 0 else offset + 4

/-- R5: a cursor one slot on. -/
def nextSlot (d : Descriptor) (slot : Nat) : Nat := if slot + 1 = d.depth then 0 else slot + 1

/-- R44, R80: the slot `n` slots after a cursor. -/
def slotAfter (d : Descriptor) (cursor n : Nat) : Nat := (cursor + n) % d.depth

/-- R87: the slot before a cursor. -/
def slotBefore (d : Descriptor) (cursor : Nat) : Nat := (cursor + d.depth - 1) % d.depth

/-- R114: the frame in this slot is the last of its span. -/
def lastOfSpan (d : Descriptor) (slot : Nat) : Bool := (slot + 1) % d.spanLength == 0

/-! ## The quantities of a stream record -/

/-- R5: occupancy is P − C modulo 2^32. -/
def Stream.occupancy (st : Stream) : Nat := (st.committed - st.consumed).toNat

/-- R60: usable depth. -/
def Stream.usableDepth (st : Stream) : Nat :=
  if st.consumer.heldSlot.isSome then st.desc.depth - 1 else st.desc.depth

/-- R60: room. -/
def Stream.room (st : Stream) : Nat := st.usableDepth - st.occupancy

/-- R60: free room. -/
def Stream.freeRoom (st : Stream) : Nat := st.room - st.producer.inFlight.length

/-- R43: the next producer index. -/
def Stream.nextProducerIndex (st : Stream) : Word :=
  st.committed + BitVec.ofNat 32 st.producer.inFlight.length

/-- R45: the frame limit; none for an endless stream. -/
def Stream.frameLimit (st : Stream) : Option Nat :=
  if st.desc.budget = 0 then none else some (st.budgetNow + st.extension.getD 0)

/-- R45: the next index is at or beyond the frame limit. -/
def Stream.atFrameLimit (st : Stream) : Bool :=
  match st.frameLimit with
  | none => false
  | some limit => limit ≤ st.nextProducerIndex.toNat

/-- R80: the next consumer index. -/
def Stream.nextConsumerIndex (st : Stream) : Word :=
  st.consumed + BitVec.ofNat 32 st.consumer.delivery.length

/-- R80: the available count. -/
def Stream.available (st : Stream) : Nat := st.occupancy - st.consumer.delivery.length

/-- R10: the stream has a window. -/
def Stream.hasWindow (st : Stream) : Bool := st.state != .closed

/-- R70: the resumption test of an overrun condition. -/
def Stream.overrunMayResume (st : Stream) : Bool :=
  st.desc.restartLevel ≤ st.freeRoom && (st.overrunAcked || st.desc.autoResume)

/-- R93: the resumption test of an underrun condition, reduced to one part in DRAINING. -/
def Stream.underrunMayResume (st : Stream) : Bool :=
  if st.state = .draining then 1 ≤ st.occupancy
  else (st.desc.restartLevel ≤ st.occupancy || (st.producer.phase == .done && 1 ≤ st.occupancy))
    && (st.underrunAcked || st.desc.autoResume)

/-! ## OPEN's checks on the descriptor (R13 to R16) -/

/-- R3: frame_bytes as the descriptor gives it. -/
def rawFrameBytes (r : RawDescriptor) : Nat := r.channels.toNat * r.sampleBytes.toNat

/-- R3: the last byte of the body as the descriptor gives it, as a number. -/
def rawBodyLast (r : RawDescriptor) : Nat := r.base.toNat + r.depth.toNat * rawFrameBytes r - 1

/-- R13: the RANGE check passes. -/
def rangeCheck (r : RawDescriptor) : Bool :=
  r.base.toNat % 4 == 0
  && (1 ≤ r.channels.toNat && r.channels.toNat ≤ 16)
  && (2 ≤ r.sampleBytes.toNat && r.sampleBytes.toNat ≤ 4)
  && (2 ≤ r.depth.toNat && r.depth.toNat ≤ 4096)
  && r.producerPort.toNat ≤ 3
  && r.consumerPort.toNat ≤ 3
  && r.observerPolicy.toNat ≤ 1
  && r.fullPolicy.toNat ≤ 1
  && r.emptyPolicy.toNat ≤ 1
  && r.fillMode.toNat ≤ 2
  && r.autoResume.toNat ≤ 1
  && (r.fullPolicy.toNat != 1 || (1 ≤ r.stallLimit.toNat && r.stallLimit.toNat ≤ 255))
  && (r.emptyPolicy.toNat != 1 || (1 ≤ r.waitLimit.toNat && r.waitLimit.toNat ≤ 255))
  && (1 ≤ r.restartLevel.toNat && r.restartLevel.toNat ≤ r.depth.toNat - 1)
  && r.spanLength.toNat ≤ 4096
  && r.budget.toNat ≤ Config.maxBudget
  && rawFrameBytes r % 4 == 0
  && rawFrameBytes r ≤ 64
  && rawBodyLast r ≤ 0xFFFFFFFF

/-- R14: the SPAN check passes. -/
def spanCheck (r : RawDescriptor) : Bool :=
  r.spanLength.toNat == 0
  || (r.depth.toNat % r.spanLength.toNat == 0 && r.depth.toNat / r.spanLength.toNat ≤ 8)

/-- R15: the CONFLICT check passes. -/
def conflictCheck (r : RawDescriptor) : Bool :=
  r.producerPort.toNat != r.consumerPort.toNat
  || !(r.fullPolicy.toNat == 1 || r.emptyPolicy.toNat == 1)

/-- A port number carried in a byte; OPEN has checked that it is 0 to 3. -/
def portOfByte (b : Byte) : PortId := Fin.ofNat 4 b.toNat

/-- R2, R3, R17: the descriptor an accepted OPEN stores. A limit that its policy does not use is stored as 0. -/
def storedDescriptor (r : RawDescriptor) : Descriptor :=
  { base := r.base
    channels := r.channels.toNat
    sampleBytes := r.sampleBytes.toNat
    depth := r.depth.toNat
    producerPort := portOfByte r.producerPort
    consumerPort := portOfByte r.consumerPort
    observerPolicy := if r.observerPolicy.toNat = 0 then .pass else .refuse
    fullPolicy := if r.fullPolicy.toNat = 0 then .absorb else .stall
    stallLimit := if r.fullPolicy.toNat = 0 then 0 else r.stallLimit.toNat
    emptyPolicy := if r.emptyPolicy.toNat = 0 then .fill else .wait
    waitLimit := if r.emptyPolicy.toNat = 0 then 0 else r.waitLimit.toNat
    fillMode := if r.fillMode.toNat = 0 then .zero else if r.fillMode.toNat = 1 then .constant else .hold
    fillWord := r.fillWord
    restartLevel := r.restartLevel.toNat
    autoResume := r.autoResume.toNat == 1
    spanLength := r.spanLength.toNat
    budget := r.budget.toNat
    frameBytes := rawFrameBytes r
    bodyLast := BitVec.ofNat 32 (rawBodyLast r) }

/-- R16: two byte ranges share a byte. -/
def rangesMeet (first last first' last' : Nat) : Bool := first ≤ last' && first' ≤ last

/-! ## Byte layouts (section 11.5) -/

/-- R163: the code of observer_policy. -/
def ObserverPolicy.code : ObserverPolicy → Byte
  | .pass => 0#8
  | .refuse => 1#8

/-- R163: the code of full_policy. -/
def FullPolicy.code : FullPolicy → Byte
  | .absorb => 0#8
  | .stall => 1#8

/-- R163: the code of empty_policy. -/
def EmptyPolicy.code : EmptyPolicy → Byte
  | .fill => 0#8
  | .wait => 1#8

/-- R163: the code of fill_mode. -/
def FillMode.code : FillMode → Byte
  | .zero => 0#8
  | .constant => 1#8
  | .hold => 2#8

/-- R164: the code of a stream state. -/
def StreamState.code : StreamState → Byte
  | .closed => 0#8
  | .opened => 1#8
  | .draining => 2#8
  | .ended => 3#8

/-- R164: the code of a producer phase. -/
def ProducerPhase.code : ProducerPhase → Nat
  | .flowing => 0
  | .held => 1
  | .overrun => 2
  | .done => 3

/-- R164: the code of a consumer phase. -/
def ConsumerPhase.code : ConsumerPhase → Nat
  | .flowing => 0
  | .waiting => 1
  | .underrun => 2
  | .done => 3

/-- R164: the code of a placement. -/
def Placement.code : Placement → Nat
  | .inStep => 0
  | .lost => 1

/-- R164: the code of a verdict. -/
def Verdict.code : Verdict → Byte
  | .none => 0#8
  | .real => 1#8
  | .fill => 2#8
  | .lostFill => 3#8

/-- R163: a stored descriptor in the layout of the STATUS record. -/
def Descriptor.toRaw (d : Descriptor) : RawDescriptor :=
  { base := d.base
    channels := BitVec.ofNat 8 d.channels
    sampleBytes := BitVec.ofNat 8 d.sampleBytes
    depth := BitVec.ofNat 16 d.depth
    producerPort := BitVec.ofNat 8 d.producerPort.val
    consumerPort := BitVec.ofNat 8 d.consumerPort.val
    observerPolicy := d.observerPolicy.code
    fullPolicy := d.fullPolicy.code
    stallLimit := BitVec.ofNat 8 d.stallLimit
    emptyPolicy := d.emptyPolicy.code
    waitLimit := BitVec.ofNat 8 d.waitLimit
    fillMode := d.fillMode.code
    fillWord := d.fillWord
    restartLevel := BitVec.ofNat 16 d.restartLevel
    autoResume := if d.autoResume then 1#8 else 0#8
    spanLength := BitVec.ofNat 16 d.spanLength
    budget := BitVec.ofNat 24 d.budget }

/-- R164 byte 45: the flags. -/
def Stream.flagByte (st : Stream) : Byte :=
  BitVec.ofNat 8
    (st.extension.isSome.toNat + 2 * st.consumer.heldSlot.isSome.toNat
      + 4 * (!st.producer.inFlight.isEmpty).toNat + 8 * st.overrunAcked.toNat + 16 * st.underrunAcked.toNat)

/-- R164 byte 46: the phases and placements. -/
def Stream.phaseByte (st : Stream) : Byte :=
  BitVec.ofNat 8
    (st.producer.phase.code + 4 * st.producer.placement.code + 16 * st.consumer.phase.code
      + 64 * st.consumer.placement.code)

/-- R18: the number of records in the stream's span queue, 0 where the unit holds none. -/
def Stream.spanQueueCount (st : Stream) : Nat :=
  match st.span with
  | none => 0
  | some sp => sp.queue.length

/-- R164: the event counters in their order. -/
def Counters.toBytes (c : Counters) : List Byte :=
  beBytes 2 c.absorbed.toNat ++ beBytes 2 c.filled.toNat ++ beBytes 2 c.excess.toNat
    ++ beBytes 2 c.producerLosses.toNat ++ beBytes 2 c.consumerLosses.toNat ++ beBytes 2 c.mismatches.toNat
    ++ beBytes 2 c.voidSpans.toNat ++ beBytes 2 c.memoryFaults.toNat

/-- R164: the 77-byte STATUS record. -/
def Stream.statusBytes (st : Stream) : List Byte :=
  [st.state.code] ++ st.desc.toRaw.toBytes ++ [BitVec.ofNat 8 st.desc.frameBytes]
    ++ beBytes 4 st.committed.toNat ++ beBytes 4 st.consumed.toNat ++ beBytes 4 st.budgetNow
    ++ beBytes 3 (st.extension.getD 0)
    ++ [st.flagByte, st.phaseByte, st.consumer.verdict.code, BitVec.ofNat 8 st.producer.position,
        BitVec.ofNat 8 st.consumer.position]
    ++ beBytes 2 (st.consumer.heldSlot.getD 0)
    ++ beBytes 4 st.producer.tally.toNat ++ beBytes 4 st.consumer.tally.toNat
    ++ st.counters.toBytes ++ [BitVec.ofNat 8 st.spanQueueCount]

/-- R165: the code of a notice kind. -/
def NoticeKind.code : NoticeKind → Nat
  | .started => 0
  | .overrun => 1
  | .underrun => 2
  | .resumed => 3
  | .place => 4
  | .excess => 5
  | .extended => 6
  | .produced => 7
  | .ended => 8
  | .drained => 9
  | .aborted => 10
  | .mismatch => 11
  | .memfault => 12
  | .straddle => 13
  | .refused => 14
  | .lost => 15

/-- R165: the code of a notice's side. -/
def NoticeSide.code : NoticeSide → Byte
  | .none => 0#8
  | .producer => 1#8
  | .consumer => 2#8

/-- R165: the 12-byte notice record. -/
def Notice.toBytes (n : Notice) : List Byte :=
  [BitVec.ofNat 8 n.kind.code, n.sequence, n.subject, n.side.code] ++ beBytes 4 n.value1.toNat
    ++ beBytes 4 n.value2.toNat

/-- R158: the result codes. -/
inductive ResultCode where
  | ok
  | state
  | range
  | span
  | conflict
  | overlap
  | late
  | full
  | none
  | empty
  | bound
  | busy
  | unknown
deriving DecidableEq, Repr

/-- R158: the byte of a result code. -/
def ResultCode.byte : ResultCode → Byte
  | .ok => 0x01#8
  | .state => 0x02#8
  | .range => 0x03#8
  | .span => 0x04#8
  | .conflict => 0x05#8
  | .overlap => 0x06#8
  | .late => 0x07#8
  | .full => 0x08#8
  | .none => 0x09#8
  | .empty => 0x0A#8
  | .bound => 0x0B#8
  | .busy => 0x0C#8
  | .unknown => 0x0F#8

/-- R156: a stream target above 15 names no stream. -/
def streamTarget (target : Byte) : Option StreamId :=
  if h : target.toNat < 16 then some ⟨target.toNat, h⟩ else none

/-- R156: a line target above 7 names no line. -/
def lineTarget (target : Byte) : Option LineId :=
  if h : target.toNat < 8 then some ⟨target.toNat, h⟩ else none

/-- R156: the side code of BIND_PACE. -/
def sideOfByte (side : Byte) : Option Side :=
  if side = 0#8 then some .producer else if side = 1#8 then some .consumer else none

end Sys2Proof.Machine
end

