-- ==== Sys2Proof/Machine/Flags.lean ====
section
/-! DEFINITION. The flags and derived levels: saturating counters and tallies, the CRC function, the ALERTn level, the
PACE outputs, and the summary byte. -/

namespace Sys2Proof.Machine

open Sys2Proof

/-- R9: a 16-bit event counter raised by one, saturating at 65,535. -/
def counterUp (c : BitVec 16) : BitVec 16 := if c = 0xFFFF#16 then c else c + 1#16

/-- R7: a condition tally raised by one, saturating at 4,294,967,295. -/
def tallyUp (t : Word) : Word := if t = 0xFFFFFFFF#32 then t else t + 1#32

/-- R144: the count of a LOST record raised by one, saturating at 255. -/
def lostUp (v : Word) : Word := if v = 255#32 then v else v + 1#32

/-! ## The CRC function (R112) -/

/-- R112: one bit taken into the register. -/
def crcBit (polynomial reg : Word) (bit : Bool) : Word :=
  if reg.msb != bit then (reg <<< 1) ^^^ polynomial else reg <<< 1

/-- R112: one byte taken into the register, its most significant bit first. -/
def crcByte (polynomial reg : Word) (b : Byte) : Word :=
  [b.getLsbD 7, b.getLsbD 6, b.getLsbD 5, b.getLsbD 4, b.getLsbD 3, b.getLsbD 2, b.getLsbD 1, b.getLsbD 0].foldl
    (crcBit polynomial) reg

/-- R112: bytes taken into the register in order. -/
def crcBytes (polynomial reg : Word) (bytes : List Byte) : Word := bytes.foldl (crcByte polynomial) reg

/-! ## Levels -/

/-- R148: the queue holds a record whose kind is enabled. -/
def NoticeQueue.alerting (q : NoticeQueue) : Bool := q.records.any fun n => q.mask.getLsbD n.kind.code

/-- R148: the level of ALERTn: false while pulled low, true while released. -/
def State.alertN (s : State) : Bool := !s.queue.alerting

/-- R125: a PACE output is high only in GRANTED. -/
def State.pace (s : State) (l : LineId) : Bool := s.lines[l].state == .granted

/-- R24: the three states of a port record. -/
inductive PortState where
  | idle
  | active
  | held
deriving DecidableEq, Repr

/-- R24: the state of a port record. -/
def Port.state (p : Port) : PortState :=
  match p.txn with
  | none => .idle
  | some t => if t.hold.isSome then .held else .active

/-- R153, R162: the summary byte, formed at CSn falling. -/
def State.summaryByte (s : State) : Byte :=
  BitVec.ofNat 8 (128 * s.spi.truncated.toNat + 64 * s.alertN.toNat + s.queue.records.length)

end Sys2Proof.Machine
end

