-- ==== Sys2Proof/Machine/Ops.lean ====
section
/-! DEFINITION. The shared operations on State: access to the records, posting a notice (R143, R144), the pace lines
(R128 to R133), the segment lists and the arbiter (R135 to R138), and the upstream responses of a port (R23). -/

namespace Sys2Proof.Machine

open Sys2Proof

/-! ## Access to the records -/

/-- The record of stream `i`. -/
def State.stream (s : State) (i : StreamId) : Stream := s.streams[i]

/-- Change the record of stream `i`. -/
def State.modStream (s : State) (i : StreamId) (f : Stream → Stream) : State :=
  { s with streams := s.streams.set i (f (s.stream i)) }

/-- The record of port `p`. -/
def State.port (s : State) (p : PortId) : Port := s.ports[p]

/-- Change the record of port `p`. -/
def State.modPort (s : State) (p : PortId) (f : Port → Port) : State :=
  { s with ports := s.ports.set p (f (s.port p)) }

/-- Change the transaction in progress of port `p`, if there is one. -/
def State.modTxn (s : State) (p : PortId) (f : Transaction → Transaction) : State :=
  s.modPort p fun port => { port with txn := port.txn.map f }

/-- Change every stream record. -/
def State.mapStreams (s : State) (f : Stream → Stream) : State :=
  { s with streams := #v[f (s.stream 0), f (s.stream 1), f (s.stream 2), f (s.stream 3), f (s.stream 4),
      f (s.stream 5), f (s.stream 6), f (s.stream 7), f (s.stream 8), f (s.stream 9), f (s.stream 10),
      f (s.stream 11), f (s.stream 12), f (s.stream 13), f (s.stream 14), f (s.stream 15)] }

/-- Change every port record. -/
def State.mapPorts (s : State) (f : PortId → Port → Port) : State :=
  { s with ports := #v[f 0 (s.port 0), f 1 (s.port 1), f 2 (s.port 2), f 3 (s.port 3)] }

/-- The record of pace line `l`. -/
def State.line (s : State) (l : LineId) : Line := s.lines[l]

/-- Replace the record of pace line `l`. -/
def State.setLine (s : State) (l : LineId) (x : Line) : State := { s with lines := s.lines.set l x }

/-- The line numbers in order. -/
def allLines : List LineId := [0, 1, 2, 3, 4, 5, 6, 7]

/-- Change every pace line record. -/
def State.mapLines (s : State) (f : Line → Line) : State :=
  { s with lines := #v[f (s.line 0), f (s.line 1), f (s.line 2), f (s.line 3), f (s.line 4), f (s.line 5),
      f (s.line 6), f (s.line 7)] }

/-- Change the management port's record. -/
def State.modSpi (s : State) (f : Management → Management) : State := { s with spi := f s.spi }

/-- Change the producer side of stream `i`. -/
def State.modProducer (s : State) (i : StreamId) (f : ProducerSide → ProducerSide) : State :=
  s.modStream i fun st => { st with producer := f st.producer }

/-- Change the consumer side of stream `i`. -/
def State.modConsumer (s : State) (i : StreamId) (f : ConsumerSide → ConsumerSide) : State :=
  s.modStream i fun st => { st with consumer := f st.consumer }

/-- Change the event counters of stream `i` (R9). -/
def State.count (s : State) (i : StreamId) (f : Counters → Counters) : State :=
  s.modStream i fun st => { st with counters := f st.counters }

/-- Change what the Span Check Unit holds for stream `i`; nothing where it holds nothing (R114). -/
def State.modSpan (s : State) (i : StreamId) (f : SpanState → SpanState) : State :=
  s.modStream i fun st => { st with span := st.span.map f }

/-- R28: the session a transaction is bound to is still running. -/
def State.live (s : State) (b : Binding) : Bool :=
  (s.stream b.stream).state != .closed && (s.stream b.stream).session == b.session

/-- A stream number as the subject of a notice (R141). -/
def streamSubject (i : StreamId) : Byte := BitVec.ofNat 8 i.val

/-- A port number as the subject of a notice (R141). -/
def portSubject (p : PortId) : Byte := BitVec.ofNat 8 p.val

/-! ## The Notice Queue (R143, R144) -/

/-- R144: the newest record is a LOST record. -/
def NoticeQueue.newestLost (q : NoticeQueue) : Bool :=
  match q.records.getLast? with
  | some n => n.kind == .lost
  | none => false

/-- R144: one more notice counted into the newest record. -/
def NoticeQueue.countLost (records : List Notice) : List Notice :=
  match records.getLast? with
  | some n => records.dropLast ++ [{ n with value1 := lostUp n.value1 }]
  | none => records

/-- R144: a LOST record standing for one notice. -/
def lostRecord (sequence : BitVec 8) : Notice :=
  { kind := .lost, sequence := sequence, subject := 0#8, side := .none, value1 := 1#32, value2 := 0#32 }

/-- R143, R144: a notice offered to the queue takes the counter's number and is placed. -/
def NoticeQueue.post (q : NoticeQueue) (kind : NoticeKind) (subject : Byte) (side : NoticeSide)
    (value1 value2 : Word) : NoticeQueue :=
  { q with
    sequence := q.sequence + 1#8
    records :=
      if q.records.length ≤ Config.queueRoom then
        q.records ++ [{ kind := kind, sequence := q.sequence, subject := subject, side := side, value1 := value1,
                        value2 := value2 }]
      else if q.newestLost then NoticeQueue.countLost q.records
      else q.records ++ [lostRecord q.sequence] }

/-- R143: a block offers a notice to the queue. -/
def State.post (s : State) (kind : NoticeKind) (subject : Byte) (side : NoticeSide) (value1 value2 : Word) : State :=
  { s with queue := s.queue.post kind subject side value1 value2 }

/-! ## Pace lines (R128 to R133) -/

/-- R128: a side of a stream is ready for a packet. -/
def State.sideReady (s : State) (i : StreamId) (side : Side) (packet : Nat) : Bool :=
  let st := s.stream i
  match side with
  | .producer => st.state == .opened && st.producer.phase == .flowing && packet ≤ st.freeRoom
  | .consumer =>
      (st.state == .opened || st.state == .draining) && st.consumer.phase == .flowing && packet ≤ st.occupancy

/-- R129: a line in WATCHING is tested for readiness. -/
def State.tested (s : State) (l : Line) : Line :=
  if l.state = .watching && s.sideReady l.stream l.side l.packet then { l with state := .granted } else l

/-- R129, R131: a commit (side producer) or a consume (side consumer) of stream `i` reaches its lines. -/
def State.paceCount (s : State) (i : StreamId) (side : Side) : State :=
  s.mapLines fun l =>
    if l.stream = i then
      match l.state with
      | .watching => s.tested l
      | .inPacket =>
          if l.side = side then
            if l.credit ≤ 1 then s.tested { l with state := .watching, credit := 0 }
            else { l with credit := l.credit - 1 }
          else l
      | .granted => l
      | .unbound => l
    else l

/-- R129: an event of stream `i` (a line's entry into WATCHING, the release of its held slot, the return of one of its sides
to FLOWING) is tested for both of its lines. -/
def State.paceTest (s : State) (i : StreamId) : State := s.mapLines fun l => if l.stream = i then s.tested l else l

/-- R130: a placed or REAL frame start of a side of stream `i`. -/
def State.paceFrameStart (s : State) (i : StreamId) (side : Side) : State :=
  s.mapLines fun l =>
    if l.stream = i ∧ l.side = side ∧ l.state = .granted then { l with state := .inPacket, credit := l.packet } else l

/-- R132: the line is bound to this side of stream `i` and is GRANTED or IN_PACKET: it can drop. -/
def Line.droppable (l : Line) (i : StreamId) (side : Side) : Bool :=
  l.stream == i && l.side == side && (l.state == .granted || l.state == .inPacket)

/-- R132: the line in WATCHING with its credit 0, if it can drop. -/
def Line.dropped (l : Line) (i : StreamId) (side : Side) : Line :=
  if l.droppable i side then { l with state := .watching, credit := 0 } else l

/-- R132: a side of stream `i` has entered a phase, or its stream a state, in which its line drops. R129: the drop is an entry
into WATCHING, tested for both lines of the stream. -/
def State.paceDrop (s : State) (i : StreamId) (side : Side) : State :=
  let entered := allLines.any fun m => (s.line m).droppable i side
  s.mapLines fun l => if entered && l.stream == i then s.tested (l.dropped i side) else l

/-- R133: stream `i` has become CLOSED; every line bound to it becomes UNBOUND. -/
def State.paceUnbind (s : State) (i : StreamId) : State :=
  s.mapLines fun l => if l.state ≠ .unbound ∧ l.stream = i then Line.reset else l

/-! ## The arbiter (R138) and the segment lists (R135) -/

/-- R138: the cyclic order of the ports after the one granted last. -/
def cyclicAfter (p : PortId) : List PortId := [p + 1, p + 2, p + 3, p]

/-- R138: grant the oldest segment of port `p`, its list being `g :: rest`. -/
def State.grant (s : State) (p : PortId) (g : Segment) (rest : List Segment) : State :=
  { s.modPort p fun port => { port with segments := rest, newestOpen := port.newestOpen && !rest.isEmpty } with
    memory := some { owner := p, segment := g, answered := 0, discarded := false }
    lastGranted := p }

/-- R138: grant the memory port, if it is FREE, to the first of `ports` that has a ready segment. -/
def State.grantFirst (s : State) : List PortId → State
  | [] => s
  | p :: ps =>
      match (s.port p).segments with
      | [] => s.grantFirst ps
      | g :: rest => s.grant p g rest

/-- R138: the arbiter, at each event at which it grants. -/
def State.arbitrate (s : State) : State :=
  match s.memory with
  | some _ => s
  | none => s.grantFirst (cyclicAfter s.lastGranted)

/-- R134: the segment on the memory port ends, the port becomes FREE, and the arbiter grants again. -/
def State.freeMemory (s : State) : State := { s with memory := none }.arbitrate

/-- R135: a beat at `addr` of kind `kind` may join a segment. -/
def Segment.accepts (g : Segment) (kind : SegmentKind) (addr : Word) : Bool :=
  g.kind == kind && g.addr.toNat + 4 * g.beats.length == addr.toNat && g.beats.length < Config.segmentBeats

/-- R135: a forwarded beat joins the open segment or begins a new one at the tail of the list. -/
def Port.joinSegment (port : Port) (kind : SegmentKind) (dir : Dir) (addr : Word) (binding : Binding)
    (beat : SegmentBeat) : Port :=
  let fresh : Segment := { kind := kind, dir := dir, addr := addr, binding := some binding, beats := [beat] }
  match port.segments.getLast? with
  | some g =>
      if port.newestOpen && g.accepts kind addr then
        { port with segments := port.segments.dropLast ++ [{ g with beats := g.beats ++ [beat] }] }
      else { port with segments := port.segments ++ [fresh], newestOpen := true }
  | none => { port with segments := port.segments ++ [fresh], newestOpen := true }

/-- R135: a beat is held, or given a disposition other than "forward": the open segment is closed. -/
def State.closeSegment (s : State) (p : PortId) : State := s.modPort p fun port => { port with newestOpen := false }

/-- R47, R82, R92: a stream beat is forwarded from port `p`; it is outstanding, joins a segment, and the arbiter grants it
at once where the memory port is FREE. -/
def State.forward (s : State) (p : PortId) (kind : SegmentKind) (dir : Dir) (addr : Word) (binding : Binding)
    (beat : SegmentBeat) : State :=
  ((s.modTxn p fun t => { t with outstanding := t.outstanding + 1 }).modPort p fun port =>
    port.joinSegment kind dir addr binding beat).arbitrate

/-- R136: a plain or PASS transaction is one segment, ready when the transaction is classified. -/
def State.forwardWhole (s : State) (p : PortId) (g : Segment) : State :=
  (s.modPort p fun port => { port with segments := port.segments ++ [g], newestOpen := false }).arbitrate

/-- R52, R137: remove from port `p`'s segment list the beats forwarded for the entries `ids` of the producer session `b`;
each counts as done, and the newest segment is closed if beats were removed. -/
def Port.withdraw (port : Port) (b : Binding) (ids : List Nat) : Port :=
  let doomed := fun (g : Segment) (x : SegmentBeat) =>
    g.kind == .producer && g.binding == some b && ids.contains x.entry
  let removed := (port.segments.map fun g => (g.beats.filter (doomed g)).length).sum
  { port with
    segments :=
      (port.segments.map fun g => { g with beats := g.beats.filter fun x => !doomed g x }).filter
        fun g => !g.beats.isEmpty
    newestOpen := port.newestOpen && removed == 0
    txn := port.txn.map fun t => { t with outstanding := t.outstanding - removed } }

/-- The beats of port `p` that are on the memory port and not yet answered (R134). -/
def State.beatsOnMemory (s : State) (p : PortId) : List SegmentBeat :=
  match s.memory with
  | some g => if g.owner = p then g.segment.beats.drop g.answered else []
  | none => []

/-! ## Upstream responses (R23) -/

/-- R23: an ERROR response carries the data 0. -/
def errorResponse : Response := { data := 0#32, status := .error }

/-- A response answered internally with a word, OKAY (R32). -/
def okayResponse (data : Word) : Response := { data := data, status := .okay }

/-- Give the response of beat `k` its value. -/
def Transaction.answer (t : Transaction) (k : Nat) (r : Response) : Transaction :=
  { t with responses := t.responses.map fun x => if x.beat = k then { x with value := some r } else x }

/-- Mark the response of beat `k` as that of a REAL beat (R82). -/
def Transaction.markReal (t : Transaction) (k : Nat) (m : RealMark) : Transaction :=
  { t with responses := t.responses.map fun x => if x.beat = k then { x with mark := some m } else x }

/-- Answer beat `k` of port `p` internally: the open segment is closed and the response is known. -/
def State.answerBeat (s : State) (p : PortId) (k : Nat) (r : Response) : State :=
  (s.modTxn p fun t => t.answer k r).closeSegment p

/-- The beats of a transaction from its position on, each answered with `r` at once. -/
def Transaction.answerRest (t : Transaction) (r : Response) : Transaction :=
  { t with
    responses := t.responses ++
      (List.range' t.position (t.beats - t.position)).map fun k => { beat := k, mark := none, value := some r }
    position := t.beats }

/-- R27, R36, R108: at drain completion the held or deferred beat of a consumer read and every later beat of it are answered
with fill_word, OKAY. -/
def Transaction.fillRest (t : Transaction) (word : Word) : Transaction :=
  { (t.answer (t.position - 1) (okayResponse word)).answerRest (okayResponse word) with
    hold := none, deferred := false }

/-- The read part of R37, R38: every beat not answered and not on the memory port is answered ERROR. -/
def Transaction.errorRest (t : Transaction) (onMemory : List Nat) : Transaction :=
  let owed := fun (x : ResponseSlot) =>
    if x.value.isNone && !onMemory.contains x.beat then { x with mark := none, value := some errorResponse }
    else { x with mark := none }
  Transaction.answerRest { t with responses := t.responses.map owed } errorResponse

/-- R37, R38, R137: a producer or consumer transaction is ended with error. Waiting segments are withdrawn; a segment on
the memory port (`onMemory`) stays outstanding. -/
def Port.endWithError (port : Port) (onMemory : List SegmentBeat) : Port :=
  match port.txn with
  | none => port
  | some t =>
      let t' := { t with hold := none, deferred := false, anyError := true, endedWithError := true,
                         outstanding := onMemory.length }
      { port with
        segments := []
        newestOpen := false
        txn := some (match t.dir with
          | .read => t'.errorRest (onMemory.map (·.beat))
          | .write => t') }

end Sys2Proof.Machine
end

