-- ==== Sys2Proof/Machine/Span.lean ====
section
/-! DEFINITION. The Span Check Unit (R114 to R121): its state for a stream, and what it does at each event the two
paths hand it. A stream with no span state takes none of them (R114). -/

namespace Sys2Proof.Machine

open Sys2Proof

/-- R114: the unit's state at an accepted OPEN, both accumulators at the initial value in force. -/
def SpanState.fresh (initial : Word) : SpanState :=
  { producerAcc := initial, producerRecords := [], producerSpan := 0#32, queue := [], consumerAcc := initial,
    consumerRecord := none, spanVoid := false, consumerSpan := 0#32 }

/-- R115: a placed frame starts; its checkpoint is the accumulator's value. -/
def SpanState.producerStart (sp : SpanState) : SpanState :=
  { sp with producerRecords := sp.producerRecords ++ [{ checkpoint := sp.producerAcc, spanCrc := none }] }

/-- R115: the span CRC is set aside in the newest record. -/
def setSpanCrc (records : List ProducerRecord) (crc : Word) : List ProducerRecord :=
  match records.getLast? with
  | some r => records.dropLast ++ [{ r with spanCrc := some crc }]
  | none => records

/-- R115: a beat of a placed frame is forwarded; `ends` says it is the last beat of the last frame of a span. -/
def SpanState.producerBeat (sp : SpanState) (polynomial initial data : Word) (ends : Bool) : SpanState :=
  let acc := crcBytes polynomial sp.producerAcc (beatBytes data)
  if ends then { sp with producerRecords := setSpanCrc sp.producerRecords acc, producerAcc := initial }
  else { sp with producerAcc := acc }

/-- R116: frames from the `keep`-th record on are abandoned. -/
def SpanState.producerAbandon (sp : SpanState) (keep : Nat) : SpanState :=
  match sp.producerRecords.drop keep with
  | [] => sp
  | r :: _ => { sp with producerAcc := r.checkpoint, producerRecords := sp.producerRecords.take keep }

/-- R117: the oldest frame commits; a span CRC set aside in its record is pushed. -/
def SpanState.commit (sp : SpanState) : SpanState :=
  match sp.producerRecords with
  | [] => sp
  | r :: rest =>
      match r.spanCrc with
      | none => { sp with producerRecords := rest }
      | some crc =>
          { sp with
            producerRecords := rest
            queue := sp.queue ++ [{ span := sp.producerSpan, crc := crc }]
            producerSpan := sp.producerSpan + 1#32 }

/-- R118: a REAL frame starts; its checkpoint is opened. -/
def SpanState.consumerStart (sp : SpanState) : SpanState := { sp with consumerRecord := some .unset }

/-- R118: an open checkpoint of the frame takes the accumulator's value at the frame's first returned beat. -/
def SpanState.setCheckpoint (sp : SpanState) (newest : Bool) : SpanState :=
  if newest && sp.consumerRecord == some .unset then { sp with consumerRecord := some (.value sp.consumerAcc) } else sp

/-- R118: a REAL beat's data is returned OKAY; `newest` says its frame is the newest in the delivery list. -/
def SpanState.consumerBeat (sp : SpanState) (polynomial data : Word) (newest : Bool) : SpanState :=
  let sp' := sp.setCheckpoint newest
  { sp' with consumerAcc := crcBytes polynomial sp'.consumerAcc (beatBytes data) }

/-- R119: the REAL frame in delivery is abandoned. -/
def SpanState.consumerAbandon (sp : SpanState) : SpanState :=
  match sp.consumerRecord with
  | some (.value crc) => { sp with consumerAcc := crc, consumerRecord := none }
  | some .unset => { sp with consumerRecord := none }
  | none => sp

/-- R120, R121: what a consume leaves in the unit, `last` for the last frame of its span: the head record is removed, the
accumulator reseeded and the void flag cleared; any other frame only sets the void flag where it is faulted. -/
def SpanState.consume (sp : SpanState) (initial : Word) (faulted last : Bool) : SpanState :=
  let isVoid := sp.spanVoid || faulted
  if last then
    { sp with
      queue := sp.queue.drop 1
      consumerAcc := initial
      spanVoid := false
      consumerSpan := sp.consumerSpan + 1#32 }
  else { sp with spanVoid := isVoid }

/-- R120: the comparison at a completed span: the expected and observed CRCs combined by exclusive-or, where a record is
at the head. -/
def SpanState.difference (sp : SpanState) : Option Word := sp.queue.head?.map fun r => r.crc ^^^ sp.consumerAcc

/-- R115: the unit is told that a frame of stream `i` is placed. -/
def State.spanProducerStart (s : State) (i : StreamId) : State := s.modSpan i SpanState.producerStart

/-- R115: the unit is told that a beat of a placed frame in `slot` of stream `i` is forwarded. -/
def State.spanProducerBeat (s : State) (i : StreamId) (slot : Nat) (data : Word) (last : Bool) : State :=
  s.modSpan i fun sp =>
    sp.producerBeat s.polynomial s.initial data (last && lastOfSpan (s.stream i).desc slot)

/-- R116: the unit is told that the frames from the `keep`-th on are abandoned. -/
def State.spanProducerAbandon (s : State) (i : StreamId) (keep : Nat) : State :=
  s.modSpan i fun sp => sp.producerAbandon keep

/-- R117: the unit is told of a commit. -/
def State.spanCommit (s : State) (i : StreamId) : State := s.modSpan i SpanState.commit

/-- R118: the unit is told of a REAL frame start. -/
def State.spanConsumerStart (s : State) (i : StreamId) : State := s.modSpan i SpanState.consumerStart

/-- R118: the unit is told of the return of a REAL beat's data, OKAY. -/
def State.spanConsumerBeat (s : State) (i : StreamId) (data : Word) (newest : Bool) : State :=
  s.modSpan i fun sp => sp.consumerBeat s.polynomial data newest

/-- R118: the unit is told of the return of a REAL beat answered ERROR. -/
def State.spanConsumerError (s : State) (i : StreamId) (newest : Bool) : State :=
  s.modSpan i fun sp => sp.setCheckpoint newest

/-- R119: the unit is told that the REAL frame in delivery is abandoned. -/
def State.spanConsumerAbandon (s : State) (i : StreamId) : State := s.modSpan i SpanState.consumerAbandon

/-- R120, R121: the report of a completed span of stream `i`: void, equal, or MISMATCH. -/
def State.spanReport (s : State) (i : StreamId) (sp : SpanState) (faulted : Bool) : State :=
  if sp.spanVoid || faulted then s.count i fun c => { c with voidSpans := counterUp c.voidSpans }
  else
    match sp.difference with
    | none => s
    | some diff =>
        if diff = 0#32 then s
        else
          (s.count i fun c => { c with mismatches := counterUp c.mismatches }).post .mismatch (streamSubject i)
            .consumer sp.consumerSpan diff

/-- R120: the unit is told of the consume of a frame in `slot` of stream `i`. -/
def State.spanConsume (s : State) (i : StreamId) (slot : Nat) (faulted : Bool) : State :=
  match (s.stream i).span with
  | none => s
  | some sp =>
      let last := lastOfSpan (s.stream i).desc slot
      let s' := if last then s.spanReport i sp faulted else s
      s'.modSpan i fun x => x.consume s.initial faulted last

end Sys2Proof.Machine
end

