-- ==== Sys2Proof/Machine/Producer.lean ====
section
/-! DEFINITION. The Producer Path (R39 to R57) and full rings (R60 to R75): placing and absorbing frames, the overrun
condition, the STALL hold and its release, and abandonment. `i` is the stream, `p` its producer's port, `k` the beat's
number in its transaction. -/

namespace Sys2Proof.Machine

open Sys2Proof

/-- The binding of stream `i`'s running session (R28). -/
def State.binding (s : State) (i : StreamId) : Binding :=
  { stream := i, session := (s.stream i).session, fillWord := (s.stream i).desc.fillWord }

/-- The producer transaction in progress of stream `i`'s running session, if there is one. -/
def State.producerTxn (s : State) (i : StreamId) : Option Transaction :=
  (s.port (s.stream i).desc.producerPort).txn.filter fun t => t.cls == some (.producer (s.binding i))

/-- The consumer transaction in progress of stream `i`'s running session, if there is one. -/
def State.consumerTxn (s : State) (i : StreamId) : Option Transaction :=
  (s.port (s.stream i).desc.consumerPort).txn.filter fun t => t.cls == some (.consumer (s.binding i))

/-- Set the producer phase. -/
def State.setProducerPhase (s : State) (i : StreamId) (ph : ProducerPhase) : State :=
  s.modProducer i fun ps => { ps with phase := ph }

/-! ## Placing a frame (R44, R47, R48) -/

/-- R47, R48: the newest entry after one more of its beats is forwarded. -/
def forwardNewest (list : List InFlight) (last : Bool) : List InFlight :=
  match list.getLast? with
  | some e =>
      list.dropLast ++
        [{ e with outstanding := e.outstanding + 1, stage := if last then .sealed else e.stage }]
  | none => list

/-- R47, R48: the beat at `offset` of the FILLING frame is forwarded to its slot. -/
def State.forwardPlaced (s : State) (i : StreamId) (p : PortId) (k : Nat) (data : Word) (offset : Nat) : State :=
  let st := s.stream i
  match st.producer.inFlight.getLast? with
  | none => s
  | some e =>
      let last := lastOffset st.desc offset
      let s1 := s.modProducer i fun ps =>
        { ps with
          inFlight := forwardNewest ps.inFlight last
          position := nextPosition st.desc offset
          treatment := if last then .none else .place }
      let s2 := s1.spanProducerBeat i e.slot data last
      s2.forward p .producer .write (slotAddress st.desc e.slot offset) (s.binding i)
        { beat := k, data := some (data, 0xF#4), frame := e.index, entry := e.id, last := last }

/-- R44: the entry a placed frame start appends. -/
def Stream.newInFlight (st : Stream) : InFlight :=
  { id := st.producer.nextEntry
    index := st.nextProducerIndex
    slot := slotAfter st.desc st.producerCursor st.producer.inFlight.length
    stage := .filling
    outstanding := 0 }

/-- R44: a frame start is placed: its entry takes the next index and slot, and its checkpoint is taken. -/
def State.enterFrame (s : State) (i : StreamId) : State :=
  let e := (s.stream i).newInFlight
  (s.modProducer i fun ps =>
    { ps with inFlight := ps.inFlight ++ [e], treatment := .place, nextEntry := ps.nextEntry + 1 }).spanProducerStart i

/-- R44, R130: the frame just placed is handed to the Pace Unit, and its starting beat is forwarded. -/
def State.startPlaced (s : State) (i : StreamId) (p : PortId) (k : Nat) (data : Word) : State :=
  (s.paceFrameStart i .producer).forwardPlaced i p k data 0

/-- R44: a frame start is placed and its starting beat forwarded. -/
def State.placeFrame (s : State) (i : StreamId) (p : PortId) (k : Nat) (data : Word) : State :=
  (s.enterFrame i).startPlaced i p k data

/-! ## Absorbing a frame (R46, R62, R63, R102) -/

/-- R46: a frame start is absorbed; its position is still tracked. -/
def State.absorbFrame (s : State) (i : StreamId) (p : PortId) : State :=
  let d := (s.stream i).desc
  (s.modProducer i fun ps =>
    { ps with position := nextPosition d 0, treatment := if lastOffset d 0 then .none else .absorb }).closeSegment p

/-- R102: an excess frame is counted, the session's first one posts EXCESS, and it is absorbed. -/
def State.excessFrame (s : State) (i : StreamId) (p : PortId) : State :=
  let st := s.stream i
  let s1 := s.count i fun c => { c with excess := counterUp c.excess }
  let s2 := if st.counters.excess = 0#16 then
      s1.post .excess (streamSubject i) .producer st.committed 0#32
    else s1
  s2.absorbFrame i p

/-- R63: a frame is absorbed in the overrun condition and counted in the tally and the counter. -/
def State.overrunFrame (s : State) (i : StreamId) (p : PortId) : State :=
  ((s.modProducer i fun ps => { ps with tally := tallyUp ps.tally }).count i fun c =>
    { c with absorbed := counterUp c.absorbed }).absorbFrame i p

/-- R62, R66: an overrun condition begins at a frame start, which is its first absorbed frame. -/
def State.beginOverrun (s : State) (i : StreamId) (p : PortId) : State :=
  let s1 := s.modStream i fun st =>
    { st with producer := { st.producer with phase := .overrun, tally := 0#32 }, overrunAcked := false }
  let s2 := s1.post .overrun (streamSubject i) .producer (s.stream i).committed 0#32
  (s2.paceDrop i .producer).overrunFrame i p

/-! ## Holding and releasing (R64, R65, R71) -/

/-- R25, R64, R88: port `p` holds its newest beat with a limit. The hold closes the open segment (R135). -/
def State.beginHold (s : State) (p : PortId) (limit : Nat) (data : Word) : State :=
  (s.modTxn p fun t => { t with hold := some { limit := limit, count := 0, data := data } }).closeSegment p

/-- R27: the hold of port `p` ends; its timer stops. -/
def State.endHold (s : State) (p : PortId) : State := s.modTxn p fun t => { t with hold := none }

/-- R64: under STALL a frame start that finds no free room is held. -/
def State.stallFrame (s : State) (i : StreamId) (p : PortId) (data : Word) : State :=
  ((s.beginHold p (s.stream i).desc.stallLimit data).setProducerPhase i .held).paceDrop i .producer

/-- R71: a frame start resumes the overrun condition and is placed. -/
def State.resumeOverrun (s : State) (i : StreamId) (p : PortId) (k : Nat) (data : Word) : State :=
  let s1 := (s.setProducerPhase i .flowing).post .resumed (streamSubject i) .producer (s.stream i).producer.tally 0#32
  (s1.paceTest i).placeFrame i p k data

/-- R65: a room event of stream `i`: a held producer write of an OPEN stream is released and its frame placed. R129: the
return to FLOWING is tested against the free room after the placed frame, and that frame then begins the packet of a line
so granted (R130; log entry 15). -/
def State.roomEvent (s : State) (i : StreamId) : State :=
  let st := s.stream i
  if st.state = .opened ∧ st.producer.phase = .held then
    let p := st.desc.producerPort
    match s.producerTxn i with
    | some t =>
        match t.hold with
        | some h =>
            ((((s.setProducerPhase i .flowing).endHold p).enterFrame i).paceTest i).startPlaced i p (t.position - 1) h.data
        | none => s
    | none => s
  else s

/-! ## The frame start decision (R43) -/

/-- R43: what a producer frame start meets. -/
inductive ProducerDecision where
  | excess
  | place
  | overrun
  | stall
  | resume
  | absorb
deriving DecidableEq, Repr

/-- R43, R61, R70: the decision at a producer frame start. Phase HELD meets no frame start (R43); the decision is then that
of FLOWING, and no run reaches it. -/
def Stream.producerDecision (st : Stream) : ProducerDecision :=
  if st.state ≠ .opened ∨ st.producer.phase = .done then .excess
  else if st.atFrameLimit then .excess
  else if st.producer.phase = .overrun then
    if st.overrunMayResume then .resume else .absorb
  else if 1 ≤ st.freeRoom then .place
  else
    match st.desc.fullPolicy with
    | .absorb => .overrun
    | .stall => .stall

/-- R43: a producer frame start. -/
def State.producerFrameStart (s : State) (i : StreamId) (p : PortId) (k : Nat) (data : Word) : State :=
  match (s.stream i).producerDecision with
  | .excess => s.excessFrame i p
  | .place => s.placeFrame i p k data
  | .overrun => s.beginOverrun i p
  | .stall => s.stallFrame i p data
  | .resume => s.resumeOverrun i p k data
  | .absorb => s.overrunFrame i p

/-! ## Abandonment (R52) and loss of placement (R41) -/

/-- R52, R116, R137: the in-flight frames from the `keep`-th entry on are abandoned. -/
def State.abandonProducer (s : State) (i : StreamId) (p : PortId) (keep : Nat) : State :=
  let gone := (s.stream i).producer.inFlight.drop keep
  let filling := gone.any fun e => e.stage == .filling
  let s1 := s.modProducer i fun ps =>
    { ps with
      inFlight := ps.inFlight.take keep
      position := if filling then 0 else ps.position
      treatment := if filling then .none else ps.treatment }
  (s1.spanProducerAbandon i keep).modPort p fun port => port.withdraw (s.binding i) (gone.map (·.id))

/-- R41, R42 step 1: the current frame ends; a placed one is abandoned. -/
def State.endProducerFrame (s : State) (i : StreamId) (p : PortId) : State :=
  let ps := (s.stream i).producer
  if ps.treatment = .place then s.abandonProducer i p (ps.inFlight.length - 1) else s

/-- R142: the reason codes of PLACE. -/
def placeEarly : Word := 1#32

/-- R142: the reason code misplaced. -/
def placeMisplaced : Word := 2#32

/-- R142: the reason code partial. -/
def placePartial : Word := 3#32

/-- R41, R42: one PLACE notice for the producer side and its counter. -/
def State.producerLoss (s : State) (i : StreamId) (reason : Word) : State :=
  (s.post .place (streamSubject i) .producer reason 0#32).count i fun c =>
    { c with producerLosses := counterUp c.producerLosses }

/-- R41: a partial or misplaced beat loses placement. -/
def State.losePlacement (s : State) (i : StreamId) (p : PortId) (reason : Word) : State :=
  let s1 := (s.endProducerFrame i p).closeSegment p
  (s1.modProducer i fun ps => { ps with placement := .lost, position := 0, treatment := .none }).producerLoss i reason

/-- R42: an early frame ends the current one, posts PLACE early, and is then taken as a frame start. -/
def State.earlyFrame (s : State) (i : StreamId) (p : PortId) (k : Nat) (data : Word) : State :=
  let s1 := (s.endProducerFrame i p).producerLoss i placeEarly
  (s1.modProducer i fun ps => { ps with position := 0, treatment := .none }).producerFrameStart i p k data

/-- R44 to R47: a continuation beat, forwarded or absorbed as the treatment directs. -/
def State.continueProducer (s : State) (i : StreamId) (p : PortId) (k : Nat) (data : Word) (offset : Nat) : State :=
  let st := s.stream i
  if st.producer.treatment = .place then s.forwardPlaced i p k data offset
  else
    (s.modProducer i fun ps =>
      { ps with
        position := nextPosition st.desc offset
        treatment := if lastOffset st.desc offset then .none else ps.treatment }).closeSegment p

end Sys2Proof.Machine
end

