-- ==== Sys2Proof/Machine/Consumer.lean ====
section
/-! DEFINITION. The Consumer Path (R76 to R96): REAL delivery, the underrun condition and its fill frames, the WAIT
hold, the deferral, and the frame verdict. `i` is the stream, `p` its consumer's port, `k` the beat's number in its
transaction. -/

namespace Sys2Proof.Machine

open Sys2Proof

/-- Set the consumer phase. -/
def State.setConsumerPhase (s : State) (i : StreamId) (ph : ConsumerPhase) : State :=
  s.modConsumer i fun cs => { cs with phase := ph }

/-! ## REAL frames (R82) -/

/-- R82: the newest entry after its beat is forwarded. -/
def sealNewest (list : List Delivery) (last : Bool) : List Delivery :=
  match list.getLast? with
  | some e => list.dropLast ++ [{ e with stage := if last then .sealed else e.stage }]
  | none => list

/-- R82: the beat at `offset` of the READING frame is forwarded as a read of its slot. -/
def State.forwardReal (s : State) (i : StreamId) (p : PortId) (k : Nat) (offset : Nat) : State :=
  let st := s.stream i
  match st.consumer.delivery.getLast? with
  | none => s
  | some e =>
      let last := lastOffset st.desc offset
      let s1 := s.modConsumer i fun cs =>
        { cs with
          delivery := sealNewest cs.delivery last
          position := nextPosition st.desc offset
          verdict := if last then .none else .real }
      let s2 := s1.modTxn p fun t => t.markReal k { entry := e.id, frame := e.index, last := last }
      s2.forward p .real .read (slotAddress st.desc e.slot offset) (s.binding i)
        { beat := k, data := none, frame := e.index, entry := e.id, last := last }

/-- R82: the entry a REAL frame start appends. -/
def Stream.newDelivery (st : Stream) : Delivery :=
  { id := st.consumer.nextEntry
    index := st.nextConsumerIndex
    slot := slotAfter st.desc st.consumerCursor st.consumer.delivery.length
    stage := .reading
    faulted := false }

/-- R82: a REAL frame start, its starting beat forwarded. -/
def State.startReal (s : State) (i : StreamId) (p : PortId) (k : Nat) : State :=
  let e := (s.stream i).newDelivery
  let s1 := s.modConsumer i fun cs =>
    { cs with delivery := cs.delivery ++ [e], verdict := .real, nextEntry := cs.nextEntry + 1 }
  ((s1.spanConsumerStart i).paceFrameStart i .consumer).forwardReal i p k 0

/-- R79: the READING frame is abandoned; it is delivered again from its first beat. -/
def State.abandonReal (s : State) (i : StreamId) : State :=
  (s.modConsumer i fun cs => { cs with delivery := cs.delivery.dropLast }).spanConsumerAbandon i

/-! ## Fill frames (R90, R91, R92) -/

/-- R91: the beat at `offset` of a fill frame is answered by fill_mode; with hold source SLOT it is a HOLD read (R92),
whose frame index is that of the held frame, C − 1. -/
def State.fillBeat (s : State) (i : StreamId) (p : PortId) (k : Nat) (offset : Nat) : State :=
  let st := s.stream i
  let s1 := s.modConsumer i fun cs =>
    { cs with
      position := nextPosition st.desc offset
      verdict := if lastOffset st.desc offset then .none else .fill }
  match st.desc.fillMode with
  | .zero => s1.answerBeat p k (okayResponse 0#32)
  | .constant => s1.answerBeat p k (okayResponse st.desc.fillWord)
  | .hold =>
      match st.consumer.holdSource, st.consumer.heldSlot with
      | .slot, some slot =>
          s1.forward p .hold .read (slotAddress st.desc slot offset) (s.binding i)
            { beat := k, data := none, frame := st.consumed - 1#32, entry := 0, last := false }
      | _, _ => s1.answerBeat p k (okayResponse st.desc.fillWord)

/-- R90: a frame start in UNDERRUN that does not resume is a fill frame; it is counted and its first beat answered. -/
def State.fillFrame (s : State) (i : StreamId) (p : PortId) (k : Nat) : State :=
  ((s.modConsumer i fun cs => { cs with tally := tallyUp cs.tally, verdict := .fill }).count i fun c =>
    { c with filled := counterUp c.filled }).fillBeat i p k 0

/-- R87: under HOLD the held slot is reserved. -/
def Stream.mayReserve (st : Stream) : Bool :=
  st.desc.fillMode == .hold && st.consumer.deliveredOnce && st.producer.inFlight.length < st.desc.depth

/-- R86 steps 1 to 5, R87: the underrun condition begins. -/
def State.beginUnderrun (s : State) (i : StreamId) : State :=
  let s1 := s.modStream i fun st =>
    { st with consumer := { st.consumer with phase := .underrun, tally := 0#32 }, underrunAcked := false }
  let s2 := s1.post .underrun (streamSubject i) .consumer (s.stream i).consumed 0#32
  let s3 := s2.modStream i fun st =>
    if st.mayReserve then
      { st with consumer := { st.consumer with heldSlot := some (slotBefore st.desc st.consumerCursor), holdSource := .slot } }
    else { st with consumer := { st.consumer with heldSlot := none, holdSource := .word } }
  s3.paceDrop i .consumer

/-- R88: under WAIT a frame start that finds nothing is held. -/
def State.waitFrame (s : State) (i : StreamId) (p : PortId) : State :=
  ((s.beginHold p (s.stream i).desc.waitLimit 0#32).setConsumerPhase i .waiting).paceDrop i .consumer

/-- R81: a frame start is deferred. -/
def State.deferFrame (s : State) (p : PortId) : State := s.modTxn p fun t => { t with deferred := true }

/-- R94 step 1: a reserved held slot is released; the release is a room event. -/
def State.releaseHeldSlot (s : State) (i : StreamId) : State :=
  let s1 := s.modConsumer i fun cs => { cs with heldSlot := none, holdSource := .word }
  if (s.stream i).consumer.heldSlot.isSome then (s1.roomEvent i).paceTest i else s1

/-- R94: a frame start resumes the underrun condition and is REAL. -/
def State.resumeUnderrun (s : State) (i : StreamId) (p : PortId) (k : Nat) : State :=
  let s1 := ((s.releaseHeldSlot i).setConsumerPhase i .flowing).post .resumed (streamSubject i) .consumer
    (s.stream i).consumer.tally 0#32
  (s1.paceTest i).startReal i p k

/-! ## The frame verdict (R80) -/

/-- R80: what a consumer frame start meets. -/
inductive ConsumerDecision where
  | word
  | real
  | defer
  | underrun
  | wait
  | resume
  | fill
deriving DecidableEq, Repr

/-- R80, R81, R93: the decision at a consumer frame start. WAITING and DONE meet no frame start in OPEN or DRAINING
(R80); the decision is then fill_word, and no run reaches it. -/
def Stream.consumerDecision (st : Stream) : ConsumerDecision :=
  if st.state = .ended then .word
  else
    match st.consumer.phase with
    | .flowing =>
        if 1 ≤ st.available then .real
        else if st.consumer.delivery ≠ [] then .defer
        else
          match st.desc.emptyPolicy with
          | .fill => .underrun
          | .wait => .wait
    | .underrun => if st.underrunMayResume then .resume else .fill
    | .waiting => .word
    | .done => .word

/-- R80: a consumer frame start. -/
def State.consumerFrameStart (s : State) (i : StreamId) (p : PortId) (k : Nat) : State :=
  match (s.stream i).consumerDecision with
  | .word => s.answerBeat p k (okayResponse (s.stream i).desc.fillWord)
  | .real => s.startReal i p k
  | .defer => s.deferFrame p
  | .underrun => (s.beginUnderrun i).fillFrame i p k
  | .wait => s.waitFrame i p
  | .resume => s.resumeUnderrun i p k
  | .fill => s.fillFrame i p k

/-- R81: the deferral of stream `i`'s consumer read ends and the beat is decided. -/
def State.decideDeferred (s : State) (i : StreamId) : State :=
  let p := (s.stream i).desc.consumerPort
  match s.consumerTxn i with
  | some t =>
      if t.deferred then
        (s.modTxn p fun t => { t with deferred := false }).consumerFrameStart i p (t.position - 1)
      else s
  | none => s

/-- R81: stream `i` has a deferred frame start. -/
def State.hasDeferred (s : State) (i : StreamId) : Bool :=
  match s.consumerTxn i with
  | some t => t.deferred
  | none => false

/-- R89: a commit releases a held consumer read as a REAL frame. -/
def State.releaseWaiting (s : State) (i : StreamId) : State :=
  let p := (s.stream i).desc.consumerPort
  match s.consumerTxn i with
  | some t =>
      match t.hold with
      | some _ => (((s.setConsumerPhase i .flowing).paceTest i).endHold p).startReal i p (t.position - 1)
      | none => s
  | none => s

/-- R81, R89: what a commit does for stream `i`'s consumer read: it releases a held one and ends a deferral. -/
def State.commitReachesConsumer (s : State) (i : StreamId) : State :=
  if (s.stream i).consumer.phase = .waiting then s.releaseWaiting i else s.decideDeferred i

/-! ## Loss of placement (R78) and early frames (R79) -/

/-- R78, R79: the current frame ends; a REAL one is abandoned. -/
def State.endConsumerFrame (s : State) (i : StreamId) : State :=
  if (s.stream i).consumer.verdict = .real then s.abandonReal i else s

/-- R78, R79: one PLACE notice for the consumer side and its counter. -/
def State.consumerLoss (s : State) (i : StreamId) (reason : Word) : State :=
  (s.post .place (streamSubject i) .consumer reason 0#32).count i fun c =>
    { c with consumerLosses := counterUp c.consumerLosses }

/-- R78: a misplaced read loses placement and is answered with fill_word. -/
def State.misplacedRead (s : State) (i : StreamId) (p : PortId) (k : Nat) : State :=
  let s1 := (s.endConsumerFrame i).answerBeat p k (okayResponse (s.stream i).desc.fillWord)
  (s1.modConsumer i fun cs => { cs with placement := .lost, position := 0, verdict := .lostFill }).consumerLoss i
    placeMisplaced

/-- R79: an early frame ends the current one, posts PLACE early, and is then taken as a frame start. -/
def State.earlyRead (s : State) (i : StreamId) (p : PortId) (k : Nat) : State :=
  let s1 := (s.endConsumerFrame i).consumerLoss i placeEarly
  (s1.modConsumer i fun cs => { cs with position := 0, verdict := .none }).consumerFrameStart i p k

/-- R77: a continuation beat, as the verdict directs. -/
def State.continueConsumer (s : State) (i : StreamId) (p : PortId) (k : Nat) (offset : Nat) : State :=
  if (s.stream i).consumer.verdict = .real then s.forwardReal i p k offset else s.fillBeat i p k offset

/-- R77, R78, R96: the Consumer Path takes read beat `k` at `offset`. -/
def State.consumerBeat (s : State) (i : StreamId) (p : PortId) (k : Nat) (offset : Nat) : State :=
  let st := s.stream i
  let word := okayResponse st.desc.fillWord
  if st.state = .ended then s.answerBeat p k word
  else
    match st.consumer.placement with
    | .inStep =>
        if offset = st.consumer.position then
          if offset = 0 then s.consumerFrameStart i p k else s.continueConsumer i p k offset
        else if offset = 0 then s.earlyRead i p k
        else s.misplacedRead i p k
    | .lost =>
        if offset = 0 then
          (s.modConsumer i fun cs => { cs with placement := .inStep, verdict := .none }).consumerFrameStart i p k
        else s.answerBeat p k word

end Sys2Proof.Machine
end

