-- ==== Sys2Proof/Machine/Closing.lean ====
section
/-! DEFINITION. Budgets and closing (R98 to R111): the budget test, the end test, the drain test and drain completion, and
what a commit (R49) and a consume (R83) hand to the other blocks. -/

namespace Sys2Proof.Machine

open Sys2Proof

/-! ## Becoming CLOSED -/

/-- R11, R58, R96, R97, R114: the stream record when the stream becomes CLOSED. -/
def Stream.closedRecord (st : Stream) : Stream :=
  { st with
    state := .closed
    extension := none
    producer := { st.producer with position := 0, treatment := .none, inFlight := [] }
    consumer :=
      { st.consumer with position := 0, verdict := .none, delivery := [], heldSlot := none, holdSource := .word }
    overrunAcked := false
    underrunAcked := false
    span := none }

/-- R11, R133: stream `i` becomes CLOSED and every line bound to it UNBOUND. -/
def State.becomeClosed (s : State) (i : StreamId) : State := (s.modStream i Stream.closedRecord).paceUnbind i

/-- R27, R108 step 3, R81: a held or deferred consumer read of stream `i`, and the rest of it, is answered with fill_word. -/
def State.fillHeldRead (s : State) (i : StreamId) : State :=
  match s.consumerTxn i with
  | some t =>
      if t.hold.isSome || t.deferred then
        s.modTxn (s.stream i).desc.consumerPort fun t => t.fillRest (s.stream i).desc.fillWord
      else s
  | none => s

/-- R108: the drain completes. -/
def State.completeDrain (s : State) (i : StreamId) : State :=
  ((s.fillHeldRead i).becomeClosed i).post .drained (streamSubject i) .none (s.stream i).consumed 0#32

/-- R108: the drain test passes. -/
def Stream.drained (st : Stream) : Bool :=
  st.state == .draining && st.occupancy == 0 && st.producer.inFlight.isEmpty

/-- R108: the drain test. -/
def State.drainTest (s : State) (i : StreamId) : State := if (s.stream i).drained then s.completeDrain i else s

/-! ## A commit (R49) -/

/-- R98: the budget test at a commit. -/
def State.budgetTest (s : State) (i : StreamId) : State :=
  let st := s.stream i
  if st.desc.budget ≠ 0 ∧ st.committed.toNat = st.budgetNow then
    match st.extension with
    | some n =>
        (s.modStream i fun st => { st with budgetNow := st.budgetNow + n, extension := none }).post .extended
          (streamSubject i) .producer (BitVec.ofNat 32 (st.budgetNow + n)) 0#32
    | none =>
        ((s.setProducerPhase i .done).post .produced (streamSubject i) .producer st.committed 0#32).paceDrop i .producer
  else s

/-- R49: the record's part of a commit. -/
def Stream.commitOldest (st : Stream) : Stream :=
  { st with
    committed := st.committed + 1#32
    producerCursor := nextSlot st.desc st.producerCursor
    producer := { st.producer with inFlight := st.producer.inFlight.drop 1 } }

/-- R49: the oldest in-flight frame of stream `i` commits, and the blocks take it in the order R49 lists (log entry 8). -/
def State.commit (s : State) (i : StreamId) : State :=
  let s1 := (s.modStream i Stream.commitOldest).spanCommit i
  ((s1.paceCount i .producer).budgetTest i).commitReachesConsumer i

/-! ## A consume (R83) -/

/-- R103: the end test at a consume. -/
def State.endTest (s : State) (i : StreamId) : State :=
  let st := s.stream i
  if st.state = .opened ∧ st.desc.budget ≠ 0 ∧ st.producer.phase = .done ∧ st.consumed.toNat = st.budgetNow then
    let s1 := s.modStream i fun st =>
      { st with state := .ended, consumer := { st.consumer with phase := .done } }
    (s1.post .ended (streamSubject i) .consumer st.consumed 0#32).paceDrop i .consumer
  else s

/-- R83: the record's part of a consume. -/
def Stream.consumeOldest (st : Stream) : Stream :=
  { st with
    consumed := st.consumed + 1#32
    consumerCursor := nextSlot st.desc st.consumerCursor
    consumer := { st.consumer with delivery := st.consumer.delivery.drop 1, deliveredOnce := true } }

/-- R81, R108: after a consume, the drain test and the decision of a deferred frame start the consume has left nothing
before. Where the drain completes too, the spec lets either be taken first: a free choice (log entry 10). -/
def State.afterConsume (s : State) (i : StreamId) : State :=
  if s.hasDeferred i && (s.stream i).consumer.delivery.isEmpty then
    if (s.stream i).drained then
      let s1 := { s with choices := s.choices + 1 }
      if Config.deferredFirst s.choices then (s1.decideDeferred i).drainTest i else s1.drainTest i
    else s.decideDeferred i
  else s.drainTest i

/-- R83: the oldest frame in delivery of stream `i` is consumed, and the blocks take it in the order R83 lists (log
entry 8). -/
def State.consume (s : State) (i : StreamId) : State :=
  match (s.stream i).consumer.delivery with
  | [] => s
  | e :: _ =>
      let s1 := (s.modStream i Stream.consumeOldest).spanConsume i e.slot e.faulted
      (((s1.paceCount i .consumer).roomEvent i).endTest i).afterConsume i

/-! ## The Producer Path's beats, which may end in the drain test (R40, R52) -/

/-- R52: after the path's own steps, the drain test is made where a frame was abandoned (log entry 9). -/
def State.drainAfterAbandon (s : State) (i : StreamId) (abandoned : Bool) : State :=
  if abandoned then s.drainTest i else s

/-- R40: the Producer Path takes write beat `k` at `offset`, `full` for 4 byte enables set. -/
def State.producerBeat (s : State) (i : StreamId) (p : PortId) (k : Nat) (data : Word) (full : Bool) (offset : Nat) :
    State :=
  let ps := (s.stream i).producer
  let abandons := ps.treatment == .place
  match ps.placement with
  | .inStep =>
      if !full then (s.losePlacement i p placePartial).drainAfterAbandon i abandons
      else if offset = ps.position then
        if offset = 0 then s.producerFrameStart i p k data else s.continueProducer i p k data offset
      else if offset = 0 then (s.earlyFrame i p k data).drainAfterAbandon i abandons
      else (s.losePlacement i p placeMisplaced).drainAfterAbandon i abandons
  | .lost =>
      if full && offset == 0 then
        (s.modProducer i fun ps => { ps with placement := .inStep }).producerFrameStart i p k data
      else s.closeSegment p

end Sys2Proof.Machine
end

