-- ==== Sys2Proof/Machine/Ports.lean ====
section
/-! DEFINITION. The initiator ports (R21 to R38): classification, the responses and completions returned upstream, and
what the return of a REAL beat does (R82, R83, R85). -/

namespace Sys2Proof.Machine

open Sys2Proof

/-! ## Classification (R28, R29) -/

/-- The stream numbers in order. -/
def allStreams : List StreamId := [0, 1, 2, 3, 4, 5, 6, 7, 8, 9, 10, 11, 12, 13, 14, 15]

/-- R29: the range `first` to `last` has a byte in stream `i`'s window. -/
def State.touchesWindow (s : State) (first last : Nat) (i : StreamId) : Bool :=
  let st := s.stream i
  st.hasWindow && rangesMeet first last st.desc.base.toNat st.desc.bodyLast.toNat

/-- R29: all bytes of the range lie in the body. -/
def Descriptor.covers (d : Descriptor) (first last : Nat) : Bool := d.base.toNat ≤ first && last ≤ d.bodyLast.toNat

/-- R29: the class of a transaction that lies in stream `i`'s window. -/
def State.classInWindow (s : State) (i : StreamId) (p : PortId) (dir : Dir) : TransactionClass :=
  let d := (s.stream i).desc
  if dir = .write ∧ p = d.producerPort then .producer (s.binding i)
  else if dir = .read ∧ p = d.consumerPort then .consumer (s.binding i)
  else
    match d.observerPolicy with
    | .pass => .observerPass (s.binding i)
    | .refuse => .observerRefuse (s.binding i)

/-- R28, R29: the class of a transaction, against the Stream Table as it stands. -/
def State.classify (s : State) (p : PortId) (dir : Dir) (addr : Word) (beats : Nat) : TransactionClass :=
  let first := addr.toNat
  let last := addr.toNat + 4 * beats - 1
  match allStreams.filter (s.touchesWindow first last) with
  | [] => .plain
  | [i] => if (s.stream i).desc.covers first last then s.classInWindow i p dir else .straddle
  | _ => .straddle

/-- R34: value1 of REFUSED: the address with the port number in its two lowest bits. -/
def refusedValue (addr : Word) (p : PortId) : Word := addr ||| BitVec.ofNat 32 p.val

/-- R31, R34: the notice a classification posts. -/
def State.classificationNotice (s : State) (p : PortId) (addr : Word) : TransactionClass → State
  | .straddle => s.post .straddle (portSubject p) .none addr 0#32
  | .observerRefuse b => s.post .refused (streamSubject b.stream) .none (refusedValue addr p) 0#32
  | .plain => s
  | .producer _ => s
  | .consumer _ => s
  | .observerPass _ => s
  | .overRange => s

/-! ## The return of a REAL beat (R82, R83, R85, R118) -/

/-- R85: one MEMFAULT of stream `i` and its counter. -/
def State.memfault (s : State) (i : StreamId) (side : NoticeSide) (frame : Word) : State :=
  (s.post .memfault (streamSubject i) side frame 0#32).count i fun c =>
    { c with memoryFaults := counterUp c.memoryFaults }

/-- R85: the entry with identity `id` is faulted. -/
def faultEntry (list : List Delivery) (id : Nat) : List Delivery :=
  list.map fun e => if e.id = id then { e with faulted := true } else e

/-- R82: the entry is the newest of the delivery list. -/
def newestDelivery (list : List Delivery) (id : Nat) : Bool :=
  match list.getLast? with
  | some e => e.id == id
  | none => false

/-- R82, R118: a REAL beat of an entry still in the list is returned OKAY. -/
def State.realOkay (s : State) (i : StreamId) (m : RealMark) (data : Word) : State :=
  let s1 := s.spanConsumerBeat i data (newestDelivery (s.stream i).consumer.delivery m.entry)
  if m.last then s1.consume i else s1

/-- R85, R118: a REAL beat of an entry still in the list is returned ERROR. -/
def State.realError (s : State) (i : StreamId) (m : RealMark) : State :=
  let list := (s.stream i).consumer.delivery
  let s1 :=
    if list.any fun e => e.id == m.entry && !e.faulted then
      (s.modConsumer i fun cs => { cs with delivery := faultEntry cs.delivery m.entry }).memfault i .consumer m.frame
    else s
  let s2 := s1.spanConsumerError i (newestDelivery list m.entry)
  if m.last then s2.consume i else s2

/-- R82, R83, R85: the response of a REAL beat of the session `b` is returned upstream. A session that has been closed is
not reached (R28, R36). -/
def State.realReturned (s : State) (b : Binding) (m : RealMark) (r : Response) : State :=
  if s.live b then
    let known := (s.stream b.stream).consumer.delivery.any fun e => e.id == m.entry
    match r.status with
    | .okay => if known then s.realOkay b.stream m r.data else s
    | .error => if known then s.realError b.stream m else s.memfault b.stream .consumer m.frame
  else s

/-! ## Responses and completions (R23) -/

/-- R23: the read response due next on a port: the one that heads the list, once known. -/
def Port.responseDue (port : Port) : Option (ResponseSlot × Response) :=
  match port.txn with
  | some t =>
      match t.responses with
      | x :: _ => x.value.map fun r => (x, r)
      | [] => none
  | none => none

/-- R23, R24: a read transaction with no response owed and every beat taken has ended, and the port is IDLE. -/
def Port.endRead (port : Port) : Port :=
  match port.txn with
  | some t =>
      if t.dir = .read ∧ t.responses = [] ∧ t.position = t.beats then
        { port with txn := none, segments := [], newestOpen := false }
      else port
  | none => port

/-- R23: the response `r` of the slot `x` at the head of port `p`'s list is returned upstream, and a REAL beat's return
reaches the Consumer Path. -/
def State.returnResponse (s : State) (p : PortId) (x : ResponseSlot) (r : Response) : State :=
  let cls := (s.port p).txn.bind (·.cls)
  let s1 := s.modPort p fun port =>
    { port with
      returned := port.returned ++ [r]
      txn := port.txn.map fun t => { t with responses := t.responses.drop 1 } }
  let s2 :=
    match cls, x.mark with
    | some (.consumer b), some m => s1.realReturned b m r
    | _, _ => s1
  s2.modPort p Port.endRead

/-- The ports in order. -/
def allPorts : List PortId := [0, 1, 2, 3]

/-- R23: the first port with a response due. -/
def State.firstDue (s : State) : Option (PortId × ResponseSlot × Response) :=
  allPorts.findSome? fun p => (s.port p).responseDue.map fun x => (p, x.1, x.2)

/-- R23: the responses now due are returned upstream, each port's in beat order, at most `fuel` of them. -/
def State.returnDue : Nat → State → State
  | 0, s => s
  | n + 1, s =>
      match s.firstDue with
      | none => s
      | some (p, x, r) => State.returnDue n (s.returnResponse p x r)

/-- R23, R57: the write transaction is done: every beat accepted and disposed of, and none outstanding. -/
def Transaction.writeDone (t : Transaction) : Bool :=
  t.dir == .write && t.position == t.beats && t.outstanding == 0 && t.hold.isNone

/-- R23, R57: a write completion that is due is returned, and the port is IDLE. -/
def Port.completeWrite (port : Port) : Port :=
  match port.txn with
  | some t =>
      if t.writeDone then
        { port with
          txn := none
          segments := []
          newestOpen := false
          completion := some (if t.anyError then .error else .okay) }
      else port
  | none => port

/-- Four ports owe at most 16 responses each. -/
def maxResponses : Nat := 64

/-- R23: every response and completion now due is returned upstream. -/
def State.settle (s : State) : State := (State.returnDue maxResponses s).mapPorts fun _ port => port.completeWrite

end Sys2Proof.Machine
end

