-- ==== Sys2Proof/Machine/Bus.lean ====
section
/-! DEFINITION. The commands at the initiator ports: REQUEST_TAKEN, WRITE_BEAT and READ_BEAT (R21 to R36, R136). -/

namespace Sys2Proof.Machine

open Sys2Proof

/-- R24: the record of a request just taken. -/
def Transaction.start (dir : Dir) (addr : Word) (beats : Nat) : Transaction :=
  { dir := dir, addr := addr, beats := beats, cls := none, position := 0, outstanding := 0, anyError := false,
    endedWithError := false, hold := none, deferred := false, responses := [] }

/-- R136: the one segment of a plain or PASS transaction; the data of a write arrives with its beats. -/
def wholeSegment (kind : SegmentKind) (dir : Dir) (addr : Word) (beats : Nat) (binding : Option Binding) : Segment :=
  { kind := kind, dir := dir, addr := addr, binding := binding
    beats := (List.range beats).map fun k => { beat := k, data := none, frame := 0#32, entry := 0, last := false } }

/-- R30, R33, R136: the segment a transaction of this class forms when it is classified, if it forms one. -/
def TransactionClass.whole (cls : TransactionClass) (dir : Dir) (addr : Word) (beats : Nat) : Option Segment :=
  match cls with
  | .plain => some (wholeSegment .plain dir addr beats none)
  | .observerPass b => some (wholeSegment .pass dir addr beats (some b))
  | .straddle => none
  | .producer _ => none
  | .consumer _ => none
  | .observerRefuse _ => none
  | .overRange => none

/-- R21, R31, R34: a transaction of this class is answered ERROR on every beat. -/
def TransactionClass.refused : TransactionClass → Bool
  | .straddle => true
  | .observerRefuse _ => true
  | .overRange => true
  | .plain => false
  | .observerPass _ => false
  | .producer _ => false
  | .consumer _ => false

/-- R28: the transaction of port `p` takes its class; its notice is posted and its segment, if any, is ready. -/
def State.assignClass (s : State) (p : PortId) (cls : TransactionClass) (t : Transaction) : State :=
  let s1 := (s.modTxn p fun t => { t with cls := some cls }).classificationNotice p t.addr cls
  match cls.whole t.dir t.addr t.beats with
  | some g => s1.forwardWhole p g
  | none => s1

/-- R30, R33: every beat of a plain or PASS read is forwarded with its request and is owed a response. -/
def Transaction.forwardReads (t : Transaction) : Transaction :=
  { t with
    position := t.beats
    outstanding := t.beats
    responses := (List.range t.beats).map fun k => { beat := k, mark := none, value := none } }

/-- What a read does at once when its class is known: a plain or PASS read is forwarded, a refused one is answered ERROR
on every beat, and a consumer read waits for its beats to be handed (R77). -/
def Transaction.startRead (t : Transaction) (cls : TransactionClass) : Transaction :=
  if cls.refused then t.answerRest errorResponse
  else if (cls.whole t.dir t.addr t.beats).isSome then t.forwardReads
  else t

/-- R21: the port takes a request it can take. -/
def State.acceptRequest (s : State) (p : PortId) (dir : Dir) (addr : Word) (beats : Nat) : State :=
  let t := Transaction.start dir addr beats
  let s1 := s.modPort p fun port =>
    { port with txn := some t, segments := [], newestOpen := false, returned := [], completion := none }
  if overRange addr beats then
    match dir with
    | .read => s1.modTxn p fun t => { t with cls := some .overRange }.startRead .overRange
    | .write => s1.modTxn p fun t => { t with cls := some .overRange }
  else
    match dir with
    | .read =>
        let cls := s.classify p dir addr beats
        (s1.modTxn p fun t => t.startRead cls).assignClass p cls t
    | .write => s1

/-- R21: a port takes a request when it is IDLE and PORn is high. -/
def State.acceptsRequest (s : State) (p : PortId) : Bool := s.porHigh && (s.port p).txn.isNone

/-- R21: REQUEST_TAKEN. A request offered to a port that is not IDLE, or while PORn is low, stays offered (log entry 2). -/
def execRequestTaken (p : PortId) (dir : Dir) (addr : Word) (beats : Nat) (s : State) :
    Host.Outcome State Fault Refusal :=
  .next
    (if s.acceptsRequest p && wordAligned addr && burstLengthOk beats then
      (s.acceptRequest p dir addr beats).settle
    else s)

/-! ## Write beats -/

/-- The write data of beat `k` of a plain or PASS segment. -/
def Segment.setData (g : Segment) (k : Nat) (data : Word) (enables : BitVec 4) : Segment :=
  { g with beats := g.beats.map fun x => if x.beat = k then { x with data := some (data, enables) } else x }

/-- R136: an accepted data beat of a plain or PASS write reaches the transaction's segment, in the port's list or on the
memory port. -/
def State.deliverData (s : State) (p : PortId) (k : Nat) (data : Word) (enables : BitVec 4) : State :=
  let s1 := s.modPort p fun port =>
    { port with segments := port.segments.map fun g => g.setData k data enables
                txn := port.txn.map fun t => { t with outstanding := t.outstanding + 1 } }
  { s1 with
    memory := s1.memory.map fun g => if g.owner = p then { g with segment := g.segment.setData k data enables } else g }

/-- R22, R32: write beat `k` of a transaction of class `cls` takes its disposition. -/
def State.disposeWrite (s : State) (p : PortId) (t : Transaction) (cls : TransactionClass) (data : Word)
    (enables : BitVec 4) : State :=
  let k := t.position
  match cls with
  | .plain => s.deliverData p k data enables
  | .observerPass _ => s.deliverData p k data enables
  | .straddle => s.modTxn p fun t => { t with anyError := true }
  | .observerRefuse _ => s.modTxn p fun t => { t with anyError := true }
  | .overRange => s.modTxn p fun t => { t with anyError := true }
  | .producer b =>
      if t.endedWithError then s
      else if s.live b then
        s.producerBeat b.stream p k data (fullBeat enables)
          (offsetInFrame (s.stream b.stream).desc (beatAddress t.addr k))
      else s.closeSegment p
  | .consumer _ => s

/-- R22, R28: the port accepts the next write beat, which classifies the transaction if it is the first. -/
def State.acceptWrite (s : State) (p : PortId) (t : Transaction) (data : Word) (enables : BitVec 4) : State :=
  let cls := t.cls.getD (s.classify p .write t.addr t.beats)
  let s1 := if t.cls.isNone then s.assignClass p cls t else s
  (s1.modTxn p fun t => { t with position := t.position + 1 }).disposeWrite p t cls data enables

/-- R22, R24: a write beat is accepted while a write is in progress, none of its beats is held, and beats remain. -/
def Transaction.acceptsWrite (t : Transaction) : Bool := t.dir == .write && t.hold.isNone && decide (t.position < t.beats)

/-- R22: WRITE_BEAT. A beat the port does not accept stays offered (log entry 2). -/
def execWriteBeat (p : PortId) (data : Word) (enables : BitVec 4) (s : State) : Host.Outcome State Fault Refusal :=
  .next
    (match (s.port p).txn with
    | some t => if t.acceptsWrite then (s.acceptWrite p t data enables).settle else s
    | none => s)

/-! ## Read beats -/

/-- R77: a read beat is handed while a consumer read is in progress, the beat before it has its disposition, and beats
remain. -/
def Transaction.handsRead (t : Transaction) : Bool :=
  t.dir == .read && t.hold.isNone && !t.deferred && decide (t.position < t.beats)

/-- R77, R36: the next read beat of the session `b` is handed to the Consumer Path; of a closed session it is answered with
fill_word. -/
def State.handRead (s : State) (p : PortId) (t : Transaction) (b : Binding) : State :=
  let k := t.position
  let s1 := s.modTxn p fun t =>
    { t with position := t.position + 1, responses := t.responses ++ [{ beat := k, mark := none, value := none }] }
  if s1.live b then
    s1.consumerBeat b.stream p k (offsetInFrame (s1.stream b.stream).desc (beatAddress t.addr k))
  else s1.answerBeat p k (okayResponse b.fillWord)

/-- R77: READ_BEAT. Where no beat can be handed nothing happens (log entry 2). -/
def execReadBeat (p : PortId) (s : State) : Host.Outcome State Fault Refusal :=
  .next
    (match (s.port p).txn with
    | some t =>
        match t.cls with
        | some (.consumer b) => if t.handsRead then (s.handRead p t b).settle else s
        | _ => s
    | none => s)

end Sys2Proof.Machine
end

