-- ==== Sys2Proof/Machine/Memory.lean ====
section
/-! DEFINITION. The commands of the memory controller: MEMORY_WRITE_COMPLETION and MEMORY_READ_DATA (R134, R139, R140),
with the commits of a producer segment (R49, R50) and its errors (R53, R54). -/

namespace Sys2Proof.Machine

open Sys2Proof

/-! ## Write segments -/

/-- R47: the completion of one forwarded beat lowers its entry's count. -/
def completeBeat (list : List InFlight) (entry : Nat) : List InFlight :=
  list.map fun e => if e.id = entry then { e with outstanding := e.outstanding - 1 } else e

/-- R47, R49: one beat of a segment completes OKAY; a frame whose last beat it is commits, if the entry is still in the
list. -/
def State.beatOkay (s : State) (i : StreamId) (x : SegmentBeat) : State :=
  let s1 := s.modProducer i fun ps => { ps with inFlight := completeBeat ps.inFlight x.entry }
  if x.last && (s.stream i).producer.inFlight.any fun e => e.id == x.entry then s1.commit i else s1

/-- R49, R50: a producer segment completes OKAY; its frames commit one after another. -/
def State.producerOkay (s : State) (i : StreamId) (beats : List SegmentBeat) : State :=
  beats.foldl (fun s x => s.beatOkay i x) s

/-- R53: placement is lost where a FILLING frame was abandoned by a memory error. -/
def State.loseByError (s : State) (i : StreamId) (filling : Bool) : State :=
  if filling then
    s.modProducer i fun ps => { ps with placement := .lost, position := 0, treatment := .none }
  else s

/-- R53, R54: a producer segment completes ERROR. The room an abandonment makes may release a held write (R65), and the
drain test is made (R52; log entry 9). -/
def State.producerError (s : State) (i : StreamId) (p : PortId) (beats : List SegmentBeat) : State :=
  let list := (s.stream i).producer.inFlight
  match list.findIdx? fun e => beats.any fun x => x.entry == e.id with
  | some n =>
      let gone := list.drop n
      let frame := match gone with
        | e :: _ => e.index
        | [] => 0#32
      let s1 := (s.abandonProducer i p n).memfault i .producer frame
      ((s1.loseByError i (gone.any fun e => e.stage == .filling)).roomEvent i).drainTest i
  | none =>
      match beats with
      | x :: _ => s.memfault i .producer x.frame
      | [] => s

/-- R139: the port that owns a completed write segment takes the result. -/
def Transaction.completeSegment (t : Transaction) (n : Nat) (r : BusStatus) : Transaction :=
  { t with outstanding := t.outstanding - n, anyError := t.anyError || r == .error }

/-- R139, R140: the result of a write segment goes where its kind says. A session that has been closed is not reached
(R54), and a discarded result reaches no path. -/
def State.writeResult (s : State) (g : Granted) (r : BusStatus) : State :=
  let r' := if g.discarded then .error else r
  let s1 := s.modTxn g.owner fun t => t.completeSegment g.segment.beats.length r'
  match g.segment.kind, g.segment.binding with
  | .producer, some b =>
      if g.discarded || !s.live b then s1
      else
        match r with
        | .okay => s1.producerOkay b.stream g.segment.beats
        | .error => s1.producerError b.stream g.owner g.segment.beats
  | _, _ => s1

/-- R134, R136: the controller can complete a write segment once every data beat has been presented. -/
def Granted.writeReady (g : Granted) : Bool :=
  g.segment.dir == .write && g.segment.beats.all fun x => x.data.isSome

/-- R139: MEMORY_WRITE_COMPLETION. The result is applied, then the memory port is FREE and the arbiter grants (log entry
7). With no write segment that can complete, nothing happens (log entry 2). -/
def execMemoryWriteCompletion (r : BusStatus) (s : State) : Host.Outcome State Fault Refusal :=
  .next
    (match s.memory with
    | some g => if g.writeReady then (s.writeResult g r).settle.freeMemory else s
    | none => s)

/-! ## Read segments -/

/-- R92: the result of a HOLD read: its data, or fill_word and a MEMFAULT on a memory error. A closed session posts none. -/
def State.holdResult (s : State) (p : PortId) (x : SegmentBeat) (b : Binding) (data : Word) (r : BusStatus) : State :=
  match r with
  | .okay => s.modTxn p fun t => t.answer x.beat (okayResponse data)
  | .error =>
      let s1 := s.modTxn p fun t => t.answer x.beat (okayResponse b.fillWord)
      if s.live b then s1.memfault b.stream .consumer x.frame else s1

/-- R85: the response of a REAL beat, data 0 with ERROR. -/
def realResponse (data : Word) : BusStatus → Response
  | .okay => okayResponse data
  | .error => errorResponse

/-- R139, R140: the data and status of one read beat become the response of that beat, as the segment's kind says. -/
def State.readResult (s : State) (g : Granted) (x : SegmentBeat) (data : Word) (r : BusStatus) : State :=
  let p := g.owner
  if g.discarded then s.modTxn p fun t => t.answer x.beat errorResponse
  else
    match g.segment.kind, g.segment.binding with
    | .hold, some b => s.holdResult p x b data r
    | .real, some _ => s.modTxn p fun t => t.answer x.beat (realResponse data r)
    | _, _ => s.modTxn p fun t => t.answer x.beat { data := data, status := r }

/-- R134: the segment on the memory port has answered its last read beat, and the port becomes FREE. -/
def State.endReadSegment (s : State) (g : Granted) : State :=
  if g.answered + 1 < g.segment.beats.length then s else s.freeMemory

/-- R23, R139: MEMORY_READ_DATA, one beat of the read segment (log entry 6). The response is taken, the responses now due
are returned, and after the last beat the memory port is FREE (log entry 7). With no read segment on the memory
port nothing happens (log entry 2). -/
def execMemoryReadData (data : Word) (r : BusStatus) (s : State) : Host.Outcome State Fault Refusal :=
  .next
    (match s.memory with
    | some g =>
        if g.segment.dir = .read then
          match g.segment.beats.drop g.answered with
          | x :: _ =>
              let s1 := { s with memory := some { g with answered := g.answered + 1 } }
              let s2 := s1.modTxn g.owner fun t => { t with outstanding := t.outstanding - 1 }
              ((s2.readResult g x data r).settle).endReadSegment g
          | [] => s
        else s
    | none => s)

end Sys2Proof.Machine
end

