-- ==== Sys2Proof/Machine/Timing.lean ====
section
/-! DEFINITION. The timebase (R159) and the hold timers (R26): MICROSECOND_TICK, HOLD_TIMER_EXPIRY, and a REFCLK period,
which is what the block does while no command waits (log entry 13). -/

namespace Sys2Proof.Machine

open Sys2Proof

/-- R26: a running hold timer takes a microsecond tick. A timer that has reached its limit has stopped. -/
def Hold.tick (h : Hold) : Hold := if h.count < h.limit then { h with count := h.count + 1 } else h

/-- R26: a port's hold timer, if it holds, takes a tick. -/
def Port.tick (port : Port) : Port :=
  { port with txn := port.txn.map fun t => { t with hold := t.hold.map Hold.tick } }

/-- R159: the timebase starts its next interval, which counts to the divider set last. -/
def Timebase.nextInterval (tb : Timebase) : Timebase := { tb with divider := tb.nextDivider, count := 0 }

/-- R159: the interval ends: a microsecond tick is taken and handed to every running hold timer. -/
def State.takeTick (s : State) : State :=
  { s.mapPorts fun _ port => port.tick with timebase := s.timebase.nextInterval }

/-- R159: MICROSECOND_TICK. While PORn is low no tick is taken. -/
def execMicrosecondTick (s : State) : Host.Outcome State Fault Refusal := .next (if s.porHigh then s.takeTick else s)

/-- R159: one REFCLK period: the count rises by one, and at the divider a tick is taken. While PORn is low it stays 0. -/
def State.refclk (s : State) : State :=
  if s.porHigh then
    if s.timebase.count + 1 < s.timebase.divider then
      { s with timebase := { s.timebase with count := s.timebase.count + 1 } }
    else s.takeTick
  else s

/-- R66, R89: the path that directed port `p`'s hold takes the expiry. -/
def State.takeExpiry (s : State) (p : PortId) (t : Transaction) : State :=
  match t.cls with
  | some (.producer b) => if s.live b then (s.endHold p).beginOverrun b.stream p else s
  | some (.consumer b) =>
      if s.live b then ((s.endHold p).beginUnderrun b.stream).fillFrame b.stream p (t.position - 1) else s
  | _ => s

/-- R26: HOLD_TIMER_EXPIRY. It is taken where port `p` is HELD and its timer has reached the limit; elsewhere nothing
happens (R27; log entry 2). -/
def execHoldTimerExpiry (p : PortId) (s : State) : Host.Outcome State Fault Refusal :=
  .next
    (match (s.port p).txn with
    | some t =>
        match t.hold with
        | some h => if h.limit ≤ h.count then (s.takeExpiry p t).settle else s
        | none => s
    | none => s)

end Sys2Proof.Machine
end

