-- ==== Sys2Proof/Machine/Resets.lean ====
section
/-! DEFINITION. What both resets do to the blocks (R20, R38, R59, R97, R113, R114, R124, R138, R140, R149, R159). -/

namespace Sys2Proof.Machine

open Sys2Proof

/-- The class is producer or consumer (R38). -/
def TransactionClass.onPath : TransactionClass → Bool
  | .producer _ => true
  | .consumer _ => true
  | .plain => false
  | .straddle => false
  | .observerPass _ => false
  | .observerRefuse _ => false
  | .overRange => false

/-- R38: a producer or consumer transaction in progress is ended with error; any other goes on. -/
def Port.atReset (port : Port) (onMemory : List SegmentBeat) : Port :=
  match port.txn.bind (·.cls) with
  | some cls => if cls.onPath then port.endWithError onMemory else port
  | none => port

/-- R140: the kinds of segment that a reset or an abort discards. -/
def SegmentKind.onPath : SegmentKind → Bool
  | .producer => true
  | .real => true
  | .hold => true
  | .plain => false
  | .pass => false

/-- R140: at reset the result of a stream segment on the memory port is discarded. -/
def Granted.atReset (g : Granted) : Granted := { g with discarded := g.discarded || g.segment.kind.onPath }

/-- R149: the emptied Notice Queue. -/
def NoticeQueue.reset : NoticeQueue := { records := [], sequence := 0#8, mask := Config.defaultMask }

/-- Every block but the management port takes the reset. -/
def State.resetBlocks (s : State) : State :=
  let s1 := s.mapPorts fun p port => port.atReset (s.beatsOnMemory p)
  let s2 := s1.mapStreams fun st => Stream.reset st.session
  let s3 := s2.mapLines fun _ => Line.reset
  { s3 with
    memory := s.memory.map Granted.atReset
    lastGranted := 3
    polynomial := Config.defaultPolynomial
    initial := Config.defaultInitial
    queue := NoticeQueue.reset
    timebase := Timebase.reset }

/-- R150: the STARTED notice at the end of a reset. -/
def State.postStarted (s : State) (value1 : Word) : State := s.post .started 0#8 .none value1 0#32

end Sys2Proof.Machine
end

