-- ==== Sys2Proof/Machine/Commands.lean ====
section
/-! DEFINITION. The checks, the effect and the answer of each management command (R157), whoever delivers it: the row of
the table or the last SCK edge of its frame. -/

namespace Sys2Proof.Machine

open Sys2Proof

/-- R152: the answer of a command: its result code, and its result bytes, which are empty unless the code is OK (R158). -/
structure Answer where
  code : ResultCode
  bytes : List Byte
deriving DecidableEq, Repr

/-- An answer with no result bytes. -/
def Answer.plain (code : ResultCode) : Answer := { code := code, bytes := [] }

/-! ## OPEN (R12 to R17) -/

/-- R16: the new body meets the body of another stream that is not CLOSED. -/
def State.overlapsOther (s : State) (i : StreamId) (r : RawDescriptor) : Bool :=
  allStreams.any fun j =>
    j != i && (s.stream j).hasWindow
      && rangesMeet r.base.toNat (rawBodyLast r) (s.stream j).desc.base.toNat (s.stream j).desc.bodyLast.toNat

/-- R12: OPEN's checks on stream `i`, in order; none when all pass. -/
def State.openRefusal (s : State) (i : StreamId) (r : RawDescriptor) : Option ResultCode :=
  if (s.stream i).state ≠ .closed then some .state
  else if !rangeCheck r then some .range
  else if !spanCheck r then some .span
  else if !conflictCheck r then some .conflict
  else if s.overlapsOther i r then some .overlap
  else none

/-- R17: the record of a stream just opened. -/
def Stream.opened (d : Descriptor) (initial : Word) (session : Nat) : Stream :=
  { desc := d, state := .opened, committed := 0#32, consumed := 0#32, producerCursor := 0, consumerCursor := 0,
    budgetNow := d.budget, extension := none, producer := ProducerSide.fresh, consumer := ConsumerSide.fresh,
    overrunAcked := false, underrunAcked := false, counters := Counters.zero,
    span := if d.spanLength = 0 then none else some (SpanState.fresh initial), session := session }

/-- R12, R17: OPEN. -/
def State.openCommand (target : Byte) (r : RawDescriptor) (s : State) : State × Answer :=
  match streamTarget target with
  | none => (s, Answer.plain .range)
  | some i =>
      match s.openRefusal i r with
      | some code => (s, Answer.plain code)
      | none => (s.modStream i fun st => Stream.opened (storedDescriptor r) s.initial (st.session + 1), Answer.plain .ok)

/-! ## CLOSE (R105 to R110) -/

/-- R67: CLOSE DRAIN releases a held producer write; its frame is an excess frame. -/
def State.releaseByDrain (s : State) (i : StreamId) : State :=
  let p := (s.stream i).desc.producerPort
  if (s.stream i).producer.phase = .held then
    (((s.setProducerPhase i .flowing).paceTest i).endHold p).excessFrame i p
  else s

/-- R106: an OPEN stream begins to drain, and the drain test is made. -/
def State.beginDrain (s : State) (i : StreamId) : State :=
  let s1 := (s.modStream i fun st => { st with state := .draining }).releaseByDrain i
  ((s1.paceDrop i .producer).drainTest i).settle

/-- R105: CLOSE with mode DRAIN. -/
def State.closeDrainCommand (target : Byte) (s : State) : State × Answer :=
  match streamTarget target with
  | none => (s, Answer.plain .range)
  | some i =>
      match (s.stream i).state with
      | .closed => (s, Answer.plain .state)
      | .draining => (s, Answer.plain .state)
      | .opened => (s.beginDrain i, Answer.plain .ok)
      | .ended => (s.becomeClosed i, Answer.plain .ok)

/-- R37: the port's transaction is a producer or consumer transaction of the session `b`. -/
def Port.onSession (port : Port) (b : Binding) : Bool :=
  let cls := port.txn.bind (·.cls)
  cls == some (.producer b) || cls == some (.consumer b)

/-- R140: an abort discards the result of a segment of the session `b` on the memory port. -/
def Granted.atAbort (g : Granted) (b : Binding) : Granted :=
  { g with discarded := g.discarded || (g.segment.kind.onPath && g.segment.binding == some b) }

/-- R110: CLOSE ABORT of an OPEN or DRAINING stream. -/
def State.abort (s : State) (i : StreamId) : State :=
  let b := s.binding i
  let s1 := s.mapPorts fun p port => if port.onSession b then port.endWithError (s.beatsOnMemory p) else port
  let s2 := { s1 with memory := s.memory.map fun (g : Granted) => g.atAbort b }
  ((s2.becomeClosed i).post .aborted (streamSubject i) .none (s.stream i).consumed 0#32).settle

/-- R105: CLOSE with mode ABORT. -/
def State.closeAbortCommand (target : Byte) (s : State) : State × Answer :=
  match streamTarget target with
  | none => (s, Answer.plain .range)
  | some i =>
      match (s.stream i).state with
      | .closed => (s, Answer.plain .state)
      | .opened => (s.abort i, Answer.plain .ok)
      | .draining => (s.abort i, Answer.plain .ok)
      | .ended => (s.becomeClosed i, Answer.plain .ok)

/-! ## EXTEND, ACKNOWLEDGE, STATUS -/

/-- R100: EXTEND's checks on stream `i`, in order; none when all pass. -/
def Stream.extendRefusal (st : Stream) (frames : Nat) : Option ResultCode :=
  if st.state ≠ .opened ∨ st.desc.budget = 0 then some .state
  else if st.producer.phase = .done then some .late
  else if st.extension.isSome then some .full
  else if frames = 0 ∨ Config.maxBudget < frames ∨ 0xFFFFFFFF < st.budgetNow + frames then some .range
  else none

/-- R100: EXTEND. -/
def State.extendCommand (target : Byte) (frames : BitVec 24) (s : State) : State × Answer :=
  match streamTarget target with
  | none => (s, Answer.plain .range)
  | some i =>
      match (s.stream i).extendRefusal frames.toNat with
      | some code => (s, Answer.plain code)
      | none => (s.modStream i fun st => { st with extension := some frames.toNat }, Answer.plain .ok)

/-- R72: ACKNOWLEDGE for the producer side. -/
def State.acknowledgeProducerCommand (target : Byte) (s : State) : State × Answer :=
  match streamTarget target with
  | none => (s, Answer.plain .range)
  | some i =>
      if (s.stream i).state = .closed then (s, Answer.plain .state)
      else if (s.stream i).producer.phase = .overrun then
        (s.modStream i fun st => { st with overrunAcked := true }, Answer.plain .ok)
      else (s, Answer.plain .none)

/-- R95: ACKNOWLEDGE for the consumer side. -/
def State.acknowledgeConsumerCommand (target : Byte) (s : State) : State × Answer :=
  match streamTarget target with
  | none => (s, Answer.plain .range)
  | some i =>
      if (s.stream i).state = .closed then (s, Answer.plain .state)
      else if (s.stream i).consumer.phase = .underrun then
        (s.modStream i fun st => { st with underrunAcked := true }, Answer.plain .ok)
      else (s, Answer.plain .none)

/-- R18: STATUS. -/
def State.statusCommand (target : Byte) (s : State) : State × Answer :=
  match streamTarget target with
  | none => (s, Answer.plain .range)
  | some i => (s, { code := .ok, bytes := (s.stream i).statusBytes })

/-! ## TAKE_NOTICE, SET_ALERT_MASK -/

/-- R146: TAKE_NOTICE. -/
def State.takeNoticeCommand (s : State) : State × Answer :=
  match s.queue.records with
  | [] => (s, Answer.plain .empty)
  | n :: rest => ({ s with queue := { s.queue with records := rest } }, { code := .ok, bytes := n.toBytes })

/-- R147: SET_ALERT_MASK. -/
def State.setAlertMaskCommand (mask : BitVec 16) (s : State) : State × Answer :=
  ({ s with queue := { s.queue with mask := mask } }, Answer.plain .ok)

/-! ## Pace lines (R126, R127) -/

/-- R126: a line is bound to this side of stream `i`. -/
def Line.boundTo (l : Line) (i : StreamId) (side : Side) : Bool :=
  l.state != .unbound && l.stream == i && l.side == side

/-- R126 checks 2 to 4 of BIND_PACE; none when all pass. -/
def State.bindRefusal (s : State) (l : LineId) (i : StreamId) (side : Side) (packet : Nat) : Option ResultCode :=
  if (s.stream i).state ≠ .opened then some .state
  else if (s.stream i).desc.depth / 2 < packet then some .range
  else if (s.line l).state ≠ .unbound ∨ (allLines.any fun m => (s.line m).boundTo i side) then some .bound
  else none

/-- R126: BIND_PACE. R129: the entry into WATCHING is tested for both lines of the stream. -/
def State.bindPaceCommand (line stream side packet : Byte) (s : State) : State × Answer :=
  match lineTarget line, streamTarget stream, sideOfByte side with
  | some l, some i, some sd =>
      if packet.toNat = 0 ∨ 64 < packet.toNat then (s, Answer.plain .range)
      else
        match s.bindRefusal l i sd packet.toNat with
        | some code => (s, Answer.plain code)
        | none =>
            ((s.setLine l { state := .watching, stream := i, side := sd, packet := packet.toNat, credit := 0 }).paceTest i,
              Answer.plain .ok)
  | _, _, _ => (s, Answer.plain .range)

/-- R127: UNBIND_PACE. -/
def State.unbindPaceCommand (line : Byte) (s : State) : State × Answer :=
  match lineTarget line with
  | none => (s, Answer.plain .range)
  | some l =>
      if (s.line l).state = .unbound then (s, Answer.plain .none) else (s.setLine l Line.reset, Answer.plain .ok)

/-! ## SET_INTEGRITY, SET_TIMEBASE, RESET -/

/-- R113: a stream with span checking is OPEN, DRAINING or ENDED. -/
def State.spansBusy (s : State) : Bool :=
  allStreams.any fun i => (s.stream i).hasWindow && (s.stream i).desc.spanLength != 0

/-- R113: SET_INTEGRITY. -/
def State.setIntegrityCommand (polynomial initial : Word) (s : State) : State × Answer :=
  if s.spansBusy then (s, Answer.plain .busy)
  else if polynomial.getLsbD 0 then
    ({ s with polynomial := polynomial, initial := initial }, Answer.plain .ok)
  else (s, Answer.plain .range)

/-- R159: SET_TIMEBASE. The interval in progress ends at the old divider. -/
def State.setTimebaseCommand (divider : Byte) (s : State) : State × Answer :=
  if divider.toNat = 0 ∨ 64 < divider.toNat then (s, Answer.plain .range)
  else ({ s with timebase := { s.timebase with nextDivider := divider.toNat } }, Answer.plain .ok)

/-- R160: RESET leaves the soft reset pending until CSn rises. -/
def State.resetCommand (s : State) : State × Answer :=
  (s.modSpi fun m => { m with resetPending := true }, Answer.plain .ok)

/-- R157: the command of a complete frame. A frame with a mode or side code that names no value answers RANGE (R72, R105). -/
def State.applyFrame (frame : List Byte) (s : State) : State × Answer :=
  match decodeFrame (frame.getD 0 0#8) (frame.getD 1 0#8) (frame.drop 2) with
  | some (.openStream target r) => s.openCommand target r
  | some (.closeDrain target) => s.closeDrainCommand target
  | some (.closeAbort target) => s.closeAbortCommand target
  | some (.extend target frames) => s.extendCommand target frames
  | some (.acknowledgeProducer target) => s.acknowledgeProducerCommand target
  | some (.acknowledgeConsumer target) => s.acknowledgeConsumerCommand target
  | some (.status target) => s.statusCommand target
  | some (.takeNotice _) => s.takeNoticeCommand
  | some (.bindPace line stream side packet) => s.bindPaceCommand line stream side packet
  | some (.unbindPace line) => s.unbindPaceCommand line
  | some (.setIntegrity _ polynomial initial) => s.setIntegrityCommand polynomial initial
  | some (.setAlertMask _ mask) => s.setAlertMaskCommand mask
  | some (.setTimebase _ divider) => s.setTimebaseCommand divider
  | some (.reset _) => s.resetCommand
  | _ => (s, Answer.plain .range)

end Sys2Proof.Machine
end

