-- ==== Sys2Proof/Machine/Management.lean ====
section
/-! DEFINITION. The management port (R151 to R156): bits and bytes on the SPI wires, the completion of a command frame, and
the fourteen rows that are command frames, each a definition of its own. -/

namespace Sys2Proof.Machine

open Sys2Proof

/-! ## Frames -/

/-- R155: the result code UNKNOWN, shifted out during every byte of REJECT. -/
def unknownByte : Byte := ResultCode.unknown.byte

/-- The bits received of the byte in progress are the first bits of `b`. -/
def Management.bitsMatch (m : Management) (b : Byte) : Bool := b.toNat >>> (8 - m.bitCount) == m.shiftIn.toNat

/-- The port is receiving this frame: it is in SUMMARY or FRAME, and what it has received so far is a proper beginning of
it (log entry 11). -/
def Management.awaits (m : Management) (frame : List Byte) : Bool :=
  (m.phase == .summary || m.phase == .frame) && m.frame.isPrefixOf frame
    && decide (m.frame.length < frame.length) && m.bitsMatch (frame.getD m.frame.length 0#8)

/-- PORn is high and CSn is low (R151, R161). -/
def State.selected (s : State) : Bool := s.porHigh && !s.csHigh

/-- R152: the last byte of the frame is received: the command takes effect and the port enters RESULT with its answer. The
truncated flag was cleared at byte 0 (R153), and MISO shows the last bit of a 0x00 byte. -/
def State.completeFrame (s : State) (frame : List Byte) (command : State → State × Answer) : State :=
  let result := command
    (s.modSpi fun m =>
      { m with frame := frame, truncated := false, bitCount := 0, shiftIn := 0#8, miso := some false })
  result.1.modSpi fun m =>
    { m with phase := .result, outByte := result.2.code.byte, outQueue := result.2.bytes }

/-- A row that is a command frame: where the port is receiving this frame, the frame is completed (R152). Where it is not,
the edges of the frame are ignored, or are not a command (R151, R152, R155; log entry 11). -/
def State.frameRow (s : State) (frame : List Byte) (command : State → State × Answer) : State :=
  if s.selected && s.spi.awaits frame then s.completeFrame frame command else s

/-- The frame of a command row (R156). -/
def frameOf (c : Instr) : List Byte := c.frame.getD []

/-! ## Bytes and bits -/

/-- R151, R153, R155: byte 0 is received: the truncated flag is cleared, and the port enters FRAME or REJECT. -/
def Management.receiveCode (m : Management) (code : Byte) : Management :=
  { m with
    truncated := false
    frame := [code]
    bitCount := 0
    shiftIn := 0#8
    phase := if (argumentBytes code).isSome then .frame else .reject
    outByte := if (argumentBytes code).isSome then 0x00#8 else unknownByte }

/-- R152, R156: with this many bytes the frame of byte 0's code is complete. -/
def frameComplete (frame : List Byte) : Bool :=
  match argumentBytes (frame.getD 0 0#8) with
  | some n => frame.length == n + 2
  | none => false

/-- R151, R152: a byte is received, at the eighth rising edge. -/
def State.receiveByte (s : State) (b : Byte) : State :=
  match s.spi.phase with
  | .idle => s
  | .summary => s.modSpi fun m => m.receiveCode b
  | .frame =>
      let frame := s.spi.frame ++ [b]
      if frameComplete frame then s.completeFrame frame (State.applyFrame frame)
      else s.modSpi fun m => { m with frame := frame, bitCount := 0, shiftIn := 0#8, outByte := 0x00#8 }
  | .result =>
      s.modSpi fun m =>
        { m with bitCount := 0, shiftIn := 0#8, outByte := m.outQueue.headD 0x00#8, outQueue := m.outQueue.drop 1 }
  | .reject => s.modSpi fun m => { m with bitCount := 0, shiftIn := 0#8, outByte := unknownByte }

/-- R151: the byte in progress after one more bit, most significant bit first. -/
def shiftBit (acc : Byte) (bit : Bool) : Byte := (acc <<< 1) ||| (if bit then 1#8 else 0#8)

/-- R151: a rising edge of SCK samples MOSI; the eighth receives a byte. -/
def State.sckRising (s : State) (mosi : Bool) : State :=
  let b := shiftBit s.spi.shiftIn mosi
  if s.spi.bitCount = 7 then s.receiveByte b
  else s.modSpi fun m => { m with bitCount := m.bitCount + 1, shiftIn := b }

/-- R151: after a falling edge of SCK, MISO shows the next bit of the byte being shifted out. -/
def State.sckFalling (s : State) : State :=
  s.modSpi fun m => { m with miso := some (m.outByte.getLsbD (7 - m.bitCount)) }

/-- R151: SCK_EDGE. Edges are ignored while CSn is high, while PORn is low, and while the port has not joined a transaction
(R161). -/
def execSckEdge (edge : SckEdge) (s : State) : Host.Outcome State Fault Refusal :=
  .next
    (if s.selected && s.spi.phase != .idle then
      match edge with
      | .rising mosi => s.sckRising mosi
      | .falling => s.sckFalling
    else s)

/-- R155: UNKNOWN. Byte 0 carries an unassigned code; where the port is not receiving byte 0, or the code is assigned,
this event cannot be and nothing happens (log entry 11). -/
def execUnknown (code : Byte) (s : State) : Host.Outcome State Fault Refusal :=
  .next
    (if s.selected && s.spi.awaits [code] && codeUnassigned code then
      s.modSpi fun m => { m with miso := some (m.outByte.getLsbD 0) }.receiveCode code
    else s)

/-! ## The command rows -/

/-- R12 to R17: OPEN. -/
def execOpenStream (target : Byte) (desc : RawDescriptor) (s : State) : Host.Outcome State Fault Refusal :=
  .next (s.frameRow (frameOf (.openStream target desc)) (State.openCommand target desc))

/-- R105, R106, R109: CLOSE DRAIN. -/
def execCloseDrain (target : Byte) (s : State) : Host.Outcome State Fault Refusal :=
  .next (s.frameRow (frameOf (.closeDrain target)) (State.closeDrainCommand target))

/-- R105, R109, R110: CLOSE ABORT. -/
def execCloseAbort (target : Byte) (s : State) : Host.Outcome State Fault Refusal :=
  .next (s.frameRow (frameOf (.closeAbort target)) (State.closeAbortCommand target))

/-- R100: EXTEND. -/
def execExtend (target : Byte) (frames : BitVec 24) (s : State) : Host.Outcome State Fault Refusal :=
  .next (s.frameRow (frameOf (.extend target frames)) (State.extendCommand target frames))

/-- R72: ACKNOWLEDGE for the producer side. -/
def execAcknowledgeProducer (target : Byte) (s : State) : Host.Outcome State Fault Refusal :=
  .next (s.frameRow (frameOf (.acknowledgeProducer target)) (State.acknowledgeProducerCommand target))

/-- R95: ACKNOWLEDGE for the consumer side. -/
def execAcknowledgeConsumer (target : Byte) (s : State) : Host.Outcome State Fault Refusal :=
  .next (s.frameRow (frameOf (.acknowledgeConsumer target)) (State.acknowledgeConsumerCommand target))

/-- R18, R19: STATUS. -/
def execStatus (target : Byte) (s : State) : Host.Outcome State Fault Refusal :=
  .next (s.frameRow (frameOf (.status target)) (State.statusCommand target))

/-- R146: TAKE_NOTICE. -/
def execTakeNotice (target : Byte) (s : State) : Host.Outcome State Fault Refusal :=
  .next (s.frameRow (frameOf (.takeNotice target)) State.takeNoticeCommand)

/-- R126: BIND_PACE. -/
def execBindPace (line stream side packet : Byte) (s : State) : Host.Outcome State Fault Refusal :=
  .next (s.frameRow (frameOf (.bindPace line stream side packet)) (State.bindPaceCommand line stream side packet))

/-- R127: UNBIND_PACE. -/
def execUnbindPace (line : Byte) (s : State) : Host.Outcome State Fault Refusal :=
  .next (s.frameRow (frameOf (.unbindPace line)) (State.unbindPaceCommand line))

/-- R113: SET_INTEGRITY. -/
def execSetIntegrity (target : Byte) (polynomial initial : Word) (s : State) : Host.Outcome State Fault Refusal :=
  .next (s.frameRow (frameOf (.setIntegrity target polynomial initial)) (State.setIntegrityCommand polynomial initial))

/-- R147: SET_ALERT_MASK. -/
def execSetAlertMask (target : Byte) (mask : BitVec 16) (s : State) : Host.Outcome State Fault Refusal :=
  .next (s.frameRow (frameOf (.setAlertMask target mask)) (State.setAlertMaskCommand mask))

/-- R159: SET_TIMEBASE. -/
def execSetTimebase (target divider : Byte) (s : State) : Host.Outcome State Fault Refusal :=
  .next (s.frameRow (frameOf (.setTimebase target divider)) (State.setTimebaseCommand divider))

/-- R160: RESET. -/
def execReset (target : Byte) (s : State) : Host.Outcome State Fault Refusal :=
  .next (s.frameRow (frameOf (.reset target)) State.resetCommand)

end Sys2Proof.Machine
end

