-- ==== Sys2Proof/Machine/Pins.lean ====
section
/-! DEFINITION. The commands at the pins PORn and CSn: POWER_ON_RESET, POWER_ON_RESET_END, CSN_FALL and CSN_RISE (R150,
R153, R154, R160, R161). -/

namespace Sys2Proof.Machine

open Sys2Proof

/-- R161: POWER_ON_RESET. PORn goes low, and the ports return what is due (R38); where it is low already nothing happens (log entry 2). -/
def execPowerOnReset (s : State) : Host.Outcome State Fault Refusal :=
  .next
    (if s.porHigh then State.settle { s.resetBlocks with porHigh := false, spi := Management.reset } else s)

/-- R150: POWER_ON_RESET_END. PORn rises and STARTED is posted with value1 1; where it is high already nothing happens (log
entry 2). -/
def execPowerOnResetEnd (s : State) : Host.Outcome State Fault Refusal :=
  .next (if s.porHigh then s else { s with porHigh := true }.postStarted 1#32)

/-- R153: a management transaction begins: the summary byte is formed and its bit 7 driven onto MISO. -/
def State.beginTransaction (s : State) : State :=
  let summary := s.summaryByte
  s.modSpi fun m =>
    { m with phase := .summary, frame := [], bitCount := 0, shiftIn := 0#8, outByte := summary, outQueue := [],
             miso := some (summary.getLsbD 7) }

/-- R153: CSN_FALL. While PORn is low the port ignores CSn, whose level is still followed (R161); where CSn is low already
nothing happens (log entry 2). -/
def execCsnFall (s : State) : Host.Outcome State Fault Refusal :=
  .next
    (if s.csHigh then
      if s.porHigh then { s with csHigh := false }.beginTransaction else { s with csHigh := false }
    else s)

/-- R154: a transaction that ends now is truncated. -/
def Management.truncates (m : Management) : Bool :=
  m.phase == .frame || (m.phase == .summary && m.bitCount != 0)

/-- R151, R154: CSn rises: the port becomes IDLE, and a truncated command is discarded and flagged. -/
def Management.endTransaction (m : Management) : Management :=
  { m with phase := .idle, frame := [], bitCount := 0, shiftIn := 0#8, outByte := 0#8, outQueue := [], miso := none,
           truncated := m.truncated || m.truncates, resetPending := false }

/-- R160: the soft reset takes effect, STARTED is posted with value1 2, and the ports return what is due (R38). -/
def State.softReset (s : State) : State := (s.resetBlocks.postStarted 2#32).settle

/-- R154, R160: CSN_RISE. A pending soft reset takes effect. While PORn is low the port ignores CSn, whose level is still
followed (R161); where CSn is high already nothing happens (log entry 2). -/
def execCsnRise (s : State) : Host.Outcome State Fault Refusal :=
  .next
    (if s.csHigh then s
    else if s.porHigh then
      let s1 := { s with csHigh := true }.modSpi Management.endTransaction
      if s.spi.resetPending then s1.softReset else s1
    else { s with csHigh := true })

end Sys2Proof.Machine
end

