-- ==== Sys2Proof/Machine/Dispatch.lean ====
section
/-! DEFINITION. The dispatch of a command to its meaning, one arm per row of spec/opcode_table.json. -/

namespace Sys2Proof.Machine

open Sys2Proof

def exec (i : Instr) (s : State) : Host.Outcome State Fault Refusal :=
  match i with
  | .powerOnReset => Sys2Proof.Machine.execPowerOnReset s
  | .powerOnResetEnd => Sys2Proof.Machine.execPowerOnResetEnd s
  | .csnFall => Sys2Proof.Machine.execCsnFall s
  | .csnRise => Sys2Proof.Machine.execCsnRise s
  | .openStream target desc => Sys2Proof.Machine.execOpenStream target desc s
  | .closeDrain target => Sys2Proof.Machine.execCloseDrain target s
  | .closeAbort target => Sys2Proof.Machine.execCloseAbort target s
  | .extend target frames => Sys2Proof.Machine.execExtend target frames s
  | .acknowledgeProducer target => Sys2Proof.Machine.execAcknowledgeProducer target s
  | .acknowledgeConsumer target => Sys2Proof.Machine.execAcknowledgeConsumer target s
  | .status target => Sys2Proof.Machine.execStatus target s
  | .takeNotice target => Sys2Proof.Machine.execTakeNotice target s
  | .bindPace line stream side packet => Sys2Proof.Machine.execBindPace line stream side packet s
  | .unbindPace line => Sys2Proof.Machine.execUnbindPace line s
  | .setIntegrity target polynomial initial => Sys2Proof.Machine.execSetIntegrity target polynomial initial s
  | .setAlertMask target mask => Sys2Proof.Machine.execSetAlertMask target mask s
  | .setTimebase target divider => Sys2Proof.Machine.execSetTimebase target divider s
  | .reset target => Sys2Proof.Machine.execReset target s
  | .unknown code => Sys2Proof.Machine.execUnknown code s
  | .requestTaken port dir addr beats => Sys2Proof.Machine.execRequestTaken port dir addr beats s
  | .writeBeat port data enables => Sys2Proof.Machine.execWriteBeat port data enables s
  | .readBeat port => Sys2Proof.Machine.execReadBeat port s
  | .microsecondTick => Sys2Proof.Machine.execMicrosecondTick s
  | .holdTimerExpiry port => Sys2Proof.Machine.execHoldTimerExpiry port s
  | .memoryWriteCompletion result => Sys2Proof.Machine.execMemoryWriteCompletion result s
  | .memoryReadData data result => Sys2Proof.Machine.execMemoryReadData data result s
  | .sckEdge edge => Sys2Proof.Machine.execSckEdge edge s

end Sys2Proof.Machine
end

