-- ==== Sys2Proof/Safety.lean ====
section
/-! DEFINITION. What counts as a safe run of the SG416, in the terms the statements use: the forms every step keeps (the
Notice Queue's account, the Stream Table's bodies, the pace lines, the ring of each stream, its budget, the ports and
the memory port), and the words in which the statements describe an answer, a hold and a set of pace lines. -/

namespace Sys2Proof.Safety

open Sys2Proof Sys2Proof.Machine

/-! ## The management port -/

/-- The port is selected and is receiving the frame of command `c`, which is not complete yet (R151, R152). -/
abbrev Receiving (s : State) (c : Instr) : Prop :=
  s.porHigh = true ∧ s.csHigh = false ∧ s.spi.awaits (frameOf c) = true

/-- R152, R153: the management port once the frame `frame` is complete: in RESULT, with the result code next and the result
bytes after it, the truncated flag cleared, and MISO still showing the last bit of a 0x00 byte. -/
def resultPort (m : Management) (frame : List Byte) (code : Byte) (bytes : List Byte) : Management :=
  { m with phase := .result, frame := frame, bitCount := 0, shiftIn := 0#8, outByte := code, outQueue := bytes,
           miso := some false, truncated := false }

/-- `s` with the frame of `c` received and answered, and nothing else changed. -/
def answered (s : State) (c : Instr) (code : Byte) (bytes : List Byte) : State :=
  { s with spi := resultPort s.spi (frameOf c) code bytes }

/-! ## OPEN's checks, in the words of R2, R3 and R13 to R16 -/

/-- R13: every field of the descriptor lies in its range. -/
abbrev DescriptorInRange (r : RawDescriptor) : Prop :=
  r.base.toNat % 4 = 0
  ∧ (1 ≤ r.channels.toNat ∧ r.channels.toNat ≤ 16)
  ∧ (r.sampleBytes.toNat = 2 ∨ r.sampleBytes.toNat = 3 ∨ r.sampleBytes.toNat = 4)
  ∧ (2 ≤ r.depth.toNat ∧ r.depth.toNat ≤ 4096)
  ∧ r.producerPort.toNat ≤ 3 ∧ r.consumerPort.toNat ≤ 3
  ∧ (r.observerPolicy = 0#8 ∨ r.observerPolicy = 1#8)
  ∧ (r.fullPolicy = 0#8 ∨ r.fullPolicy = 1#8)
  ∧ (r.emptyPolicy = 0#8 ∨ r.emptyPolicy = 1#8)
  ∧ (r.fillMode = 0#8 ∨ r.fillMode = 1#8 ∨ r.fillMode = 2#8)
  ∧ (r.autoResume = 0#8 ∨ r.autoResume = 1#8)
  ∧ (r.fullPolicy = 1#8 → r.stallLimit ≠ 0#8)
  ∧ (r.emptyPolicy = 1#8 → r.waitLimit ≠ 0#8)
  ∧ (1 ≤ r.restartLevel.toNat ∧ r.restartLevel.toNat < r.depth.toNat)
  ∧ r.spanLength.toNat ≤ 4096
  ∧ r.channels.toNat * r.sampleBytes.toNat % 4 = 0
  ∧ r.channels.toNat * r.sampleBytes.toNat ≤ 64
  ∧ r.base.toNat + r.depth.toNat * (r.channels.toNat * r.sampleBytes.toNat) ≤ 0x100000000

/-- R14: the SPAN check passes. -/
abbrev SpanFits (r : RawDescriptor) : Prop :=
  r.spanLength = 0#16
  ∨ (r.depth.toNat % r.spanLength.toNat = 0 ∧ r.depth.toNat / r.spanLength.toNat ≤ 8)

/-- R15: the CONFLICT check passes. -/
abbrev PortsFit (r : RawDescriptor) : Prop :=
  r.producerPort = r.consumerPort → r.fullPolicy ≠ 1#8 ∧ r.emptyPolicy ≠ 1#8

/-- R16: no byte of the new body lies in the body of another stream that is not CLOSED: the new body ends before the other
begins, or begins after it ends. -/
abbrev BodyFree (s : State) (i : StreamId) (r : RawDescriptor) : Prop :=
  ∀ j : StreamId, j ≠ i → (s.stream j).state ≠ .closed →
    r.base.toNat + r.depth.toNat * (r.channels.toNat * r.sampleBytes.toNat) ≤ (s.stream j).desc.base.toNat
    ∨ (s.stream j).desc.bodyLast.toNat < r.base.toNat

/-! ## Beats and transactions -/

/-- R21, R28: the byte address `a` lies in the window of stream `j`. -/
abbrev InWindow (s : State) (a : Nat) (j : StreamId) : Prop :=
  (s.stream j).state ≠ .closed ∧ (s.stream j).desc.base.toNat ≤ a ∧ a ≤ (s.stream j).desc.bodyLast.toNat

/-- R22, R24: port `p` has the write `t` in progress and accepts its next beat. -/
abbrev WriteBeatDue (s : State) (p : PortId) (t : Transaction) : Prop :=
  (s.port p).txn = some t ∧ t.dir = .write ∧ t.hold = none ∧ t.position < t.beats

/-- R32, R40: the next beat of the write `t` on port `p` is handed to the Producer Path of stream `i`. -/
abbrev ProducerBeatDue (s : State) (p : PortId) (i : StreamId) (t : Transaction) : Prop :=
  WriteBeatDue s p t ∧ t.cls = some (.producer (s.binding i)) ∧ t.endedWithError = false
  ∧ (s.stream i).state ≠ .closed

/-- R77: port `p` has the read `t` in progress, its last beat has its disposition, and a beat remains. -/
abbrev ReadBeatDue (s : State) (p : PortId) (t : Transaction) : Prop :=
  (s.port p).txn = some t ∧ t.dir = .read ∧ t.hold = none ∧ t.deferred = false ∧ t.position < t.beats

/-- R32, R77: the next beat of the read `t` on port `p` is handed to the Consumer Path of stream `i`. -/
abbrev ConsumerBeatDue (s : State) (p : PortId) (i : StreamId) (t : Transaction) : Prop :=
  ReadBeatDue s p t ∧ t.cls = some (.consumer (s.binding i)) ∧ (s.stream i).state ≠ .closed

/-- R40, R77: the offset in frame of the next beat of `t` in stream `i`. -/
def beatOffset (s : State) (i : StreamId) (t : Transaction) : Nat :=
  (t.addr.toNat + 4 * t.position - (s.stream i).desc.base.toNat) % (s.stream i).desc.frameBytes

/-- R40, R43: a full beat of the producer of stream `i` at this offset is a frame start, in step or a recovery. -/
abbrev ProducerFrameStart (s : State) (i : StreamId) (t : Transaction) : Prop :=
  beatOffset s i t = 0 ∧ ((s.stream i).producer.placement = .lost ∨ (s.stream i).producer.position = 0)

/-- R77, R80: a read beat of the consumer of stream `i` at this offset is a frame start, in step or a recovery. -/
abbrev ConsumerFrameStart (s : State) (i : StreamId) (t : Transaction) : Prop :=
  beatOffset s i t = 0 ∧ ((s.stream i).consumer.placement = .lost ∨ (s.stream i).consumer.position = 0)

/-- R22, R135: port `p` after the next beat of its write `t` is taken and not forwarded. -/
def portAbsorbed (s : State) (p : PortId) (t : Transaction) : Port :=
  { s.port p with txn := some { t with position := t.position + 1 }, newestOpen := false }

/-- R77: the read `t` after its next beat is handed on; the beat's response is owed. -/
def readHanded (t : Transaction) : Transaction :=
  { t with position := t.position + 1, responses := t.responses ++ [{ beat := t.position, mark := none, value := none }] }

/-- R23, R135: port `p` after the next beat of its read `t` is answered internally with the response `r`. -/
def portAnswered (s : State) (p : PortId) (t : Transaction) (r : Response) : Port :=
  { s.port p with
    txn := some { t with position := t.position + 1
                         responses := t.responses ++ [{ beat := t.position, mark := none, value := some r }] }
    newestOpen := false }

/-- R46, R47: the position after the first beat of a frame. -/
def positionAfterStart (st : Stream) : Nat := if st.desc.frameBytes = 4 then 0 else 4

/-- R46: the producer side of a stream after a frame start is absorbed. -/
def frameAbsorbed (st : Stream) : ProducerSide :=
  { st.producer with
    placement := .inStep
    position := positionAfterStart st
    treatment := if st.desc.frameBytes = 4 then .none else .absorb }

/-- R77, R80: the consumer side of a stream at a frame start: in step, and with no verdict if it was LOST. -/
def consumerInStep (st : Stream) : ConsumerSide :=
  { st.consumer with
    placement := .inStep
    verdict := if st.consumer.placement = .lost then .none else st.consumer.verdict }

/-- R11: the record of a stream that becomes CLOSED. -/
def closedByRule (st : Stream) : Stream :=
  { st with
    state := .closed, extension := none, overrunAcked := false, underrunAcked := false, span := none
    producer := { st.producer with position := 0, treatment := .none, inFlight := [] }
    consumer := { st.consumer with position := 0, verdict := .none, delivery := [], heldSlot := none,
                                   holdSource := .word } }

/-- R119: the consumer accumulator back at the abandoned frame's checkpoint, if that was taken, and the record dropped. -/
def accumulatorRestored (sp : SpanState) : SpanState :=
  { sp with
    consumerRecord := none
    consumerAcc := match sp.consumerRecord with
      | some (.value crc) => crc
      | some .unset => sp.consumerAcc
      | none => sp.consumerAcc }

/-- R78, R79, R119: the record of a stream when the frame its consumer is reading ends early: the entry of a REAL frame
leaves the delivery list and its data leaves the accumulator. -/
def readingEnded (st : Stream) : Stream :=
  if st.consumer.verdict = .real then
    { st with
      consumer := { st.consumer with delivery := st.consumer.delivery.dropLast }
      span := st.span.map accumulatorRestored }
  else st

/-- R52, R137: the beat `x` of the waiting segment `g` was forwarded for one of the entries `gone` of stream `i`'s running
session. -/
abbrev ForwardedFor (s : State) (i : StreamId) (gone : List InFlight) (g : Segment) (x : SegmentBeat) : Prop :=
  g.kind = .producer ∧ g.binding = some (s.binding i) ∧ ∃ e ∈ gone, e.id = x.entry

/-- The outcome of the events `cs`, one after another. -/
def runAll : List Instr → State → Host.Outcome State Fault Refusal
  | [], s => .next s
  | c :: cs, s =>
      match exec c s with
      | .next t => runAll cs t
      | .fault f => .fault f
      | .refused r => .refused r

/-- R151: the SCK edges that shift in the bits of the byte `b`, from bit `n` − 1 down to bit 0: a rising edge with each bit,
and a falling edge after it. -/
def bitEdges (b : Byte) : Nat → List Instr
  | 0 => []
  | n + 1 => .sckEdge (.rising (b.getLsbD n)) :: .sckEdge .falling :: bitEdges b n

/-- R151, R152: the SCK edges that shift in the bytes of a frame, up to the rising edge of its last bit. -/
def frameEdges (bytes : List Byte) : List Instr := (bytes.flatMap fun b => bitEdges b 8).dropLast

/-! ## Pace lines -/

/-- R130: the line of a side of stream `i` that is GRANTED now IN_PACKET with credit equal to its packet. -/
def linesStarted (s : State) (i : StreamId) (side : Side) : Vector Line 8 :=
  (s.mapLines fun l =>
    if l.stream = i ∧ l.side = side ∧ l.state = .granted then { l with state := .inPacket, credit := l.packet }
    else l).lines

/-- R128: the side the line `l` is bound to is ready for the line's packet, its stream's record being `st`. -/
abbrev LineReady (st : Stream) (l : Line) : Prop :=
  (l.side = .producer → st.state = .opened ∧ st.producer.phase = .flowing ∧ l.packet ≤ st.freeRoom)
  ∧ (l.side = .consumer →
      (st.state = .opened ∨ st.state = .draining) ∧ st.consumer.phase = .flowing ∧ l.packet ≤ st.occupancy)

/-- R129: both lines of stream `i`, its record being `st`, tested: one that is WATCHING and ready is GRANTED. -/
def linesTested (s : State) (i : StreamId) (st : Stream) : Vector Line 8 :=
  (s.mapLines fun l =>
    if l.stream = i ∧ l.state = .watching ∧ LineReady st l then { l with state := .granted } else l).lines

/-- R129, R132: the line of a side of stream `i` that is GRANTED or IN_PACKET dropped to WATCHING with credit 0, and, where one
was, both lines of the stream, its record being `st`, tested. -/
def linesDropped (s : State) (i : StreamId) (side : Side) (st : Stream) : Vector Line 8 :=
  let drops := fun l : Line => l.stream = i ∧ l.side = side ∧ (l.state = .granted ∨ l.state = .inPacket)
  if ∃ l : LineId, drops (s.line l) then
    linesTested (s.mapLines fun l => if drops l then { l with state := .watching, credit := 0 } else l) i st
  else s.lines

/-- R129, R130: both lines of stream `i`, its record being `st`, tested, and then the line of the side that is GRANTED started on
its packet. -/
def linesResumed (s : State) (i : StreamId) (side : Side) (st : Stream) : Vector Line 8 :=
  linesStarted { s with lines := linesTested s i st } i side

/-- R133: every line bound to stream `i` UNBOUND, its fields 0. -/
def linesUnbound (s : State) (i : StreamId) : Vector Line 8 :=
  (s.mapLines fun l => if l.state ≠ .unbound ∧ l.stream = i then Line.reset else l).lines

/-! ## The form of the Notice Queue (R143, R144) -/

/-- R143: the sequence number of the record after `n`, or of the next notice offered if `n` is the newest. -/
def nextNumber (n : Notice) : BitVec 8 :=
  if n.kind = .lost then n.sequence + BitVec.ofNat 8 n.value1.toNat else n.sequence + 1#8

/-- R143: the record `n` accounts for every number up to `next`; a LOST record with count 255 may stand for more. -/
abbrev Accounts (n : Notice) (next : BitVec 8) : Prop :=
  (n.kind = .lost ∧ n.value1 = 255#32) ∨ nextNumber n = next

/-- R143: from head to tail each record accounts for the numbers up to the one after it, and the newest for those up to the
counter. -/
def accountFrom : List Notice → BitVec 8 → Bool
  | [], _ => true
  | [n], counter => decide (Accounts n counter)
  | n :: m :: rest, counter => decide (Accounts n m.sequence) && accountFrom (m :: rest) counter

/-- R144, R143: at most 32 records, at most 31 of them not LOST, the newest LOST where there are 32; each LOST record with a
count of 1 to 255; and no gap in the numbers that a LOST record does not account for. -/
abbrev NoticesInForm (q : NoticeQueue) : Prop :=
  q.records.length ≤ 32
  ∧ (q.records.filter fun n => n.kind != .lost).length ≤ 31
  ∧ (q.records.length = 32 → q.newestLost = true)
  ∧ (∀ n ∈ q.records, n.kind = .lost → 1 ≤ n.value1.toNat ∧ n.value1.toNat ≤ 255)
  ∧ accountFrom q.records q.sequence = true

/-! ## The form of the Stream Table (R2, R3, R16) -/

/-- R2, R3: a descriptor that an accepted OPEN can have stored. -/
abbrev DescriptorInForm (d : Descriptor) : Prop :=
  (1 ≤ d.channels ∧ d.channels ≤ 16) ∧ (2 ≤ d.sampleBytes ∧ d.sampleBytes ≤ 4)
  ∧ (2 ≤ d.depth ∧ d.depth ≤ 4096)
  ∧ d.frameBytes = d.channels * d.sampleBytes ∧ d.frameBytes % 4 = 0 ∧ d.frameBytes ≤ 64
  ∧ d.base.toNat % 4 = 0 ∧ d.base.toNat + d.depth * d.frameBytes = d.bodyLast.toNat + 1
  ∧ (1 ≤ d.restartLevel ∧ d.restartLevel < d.depth)
  ∧ (d.fullPolicy = .stall → 1 ≤ d.stallLimit) ∧ d.stallLimit ≤ 255
  ∧ (d.emptyPolicy = .wait → 1 ≤ d.waitLimit) ∧ d.waitLimit ≤ 255
  ∧ (d.spanLength = 0 ∨ (d.depth % d.spanLength = 0 ∧ d.depth / d.spanLength ≤ 8))
  ∧ d.budget ≤ 16777215
  ∧ (d.producerPort = d.consumerPort → d.fullPolicy = .absorb ∧ d.emptyPolicy = .fill)

/-- R2, R3, R16: every stream that is not CLOSED has a descriptor in form, and the bodies of two of them share no byte. -/
abbrev TableInForm (s : State) : Prop :=
  (∀ i : StreamId, (s.stream i).state ≠ .closed → DescriptorInForm (s.stream i).desc)
  ∧ ∀ i j : StreamId, i ≠ j → (s.stream i).state ≠ .closed → (s.stream j).state ≠ .closed →
      (s.stream i).desc.bodyLast.toNat < (s.stream j).desc.base.toNat
      ∨ (s.stream j).desc.bodyLast.toNat < (s.stream i).desc.base.toNat

/-! ## The form of the pace lines (R124 to R133) -/

/-- R128, R132: the side of stream `i` is one whose line may be GRANTED or IN_PACKET. -/
abbrev SideFlows (s : State) (i : StreamId) (side : Side) : Prop :=
  (side = .producer → (s.stream i).state = .opened ∧ (s.stream i).producer.phase = .flowing)
  ∧ (side = .consumer →
      ((s.stream i).state = .opened ∨ (s.stream i).state = .draining) ∧ (s.stream i).consumer.phase = .flowing)

/-- R124: the fields of one line record. -/
abbrev LineInForm (s : State) (l : Line) : Prop :=
  (l.state = .unbound → l = Line.reset)
  ∧ (l.state ≠ .unbound → (s.stream l.stream).state ≠ .closed ∧ 1 ≤ l.packet ∧ l.packet ≤ 64)
  ∧ (l.state = .inPacket → 1 ≤ l.credit ∧ l.credit ≤ l.packet)
  ∧ (l.state ≠ .inPacket → l.credit = 0)
  ∧ (l.state = .granted ∨ l.state = .inPacket → SideFlows s l.stream l.side)

/-- R124, R126, R133: every line record is in form, and no two lines are bound to one side of one stream. -/
abbrev LinesInForm (s : State) : Prop :=
  (∀ l : LineId, LineInForm s (s.line l))
  ∧ ∀ l m : LineId, l ≠ m → (s.line l).state ≠ .unbound → (s.line m).state ≠ .unbound →
      (s.line l).stream ≠ (s.line m).stream ∨ (s.line l).side ≠ (s.line m).side

/-! ## The form of the ports and the memory port (R23, R24, R134, R135, R138) -/

/-- R21, R24: the record of a transaction in progress. -/
abbrev TransactionInForm (t : Transaction) : Prop :=
  (1 ≤ t.beats ∧ t.beats ≤ 16) ∧ t.position ≤ t.beats ∧ t.responses.length ≤ t.position
  ∧ (∀ x ∈ t.responses, x.beat < t.position) ∧ (t.dir = .write → t.responses = [])

/-- R134, R135: a segment has 1 to 16 beats. -/
abbrev SegmentInForm (g : Segment) : Prop := 1 ≤ g.beats.length ∧ g.beats.length ≤ 16

/-- R23: nothing due is kept back: no port has a read response to return or a write completion to return. -/
abbrev NothingDue (s : State) : Prop :=
  ∀ p : PortId, (s.port p).responseDue = none ∧ ∀ t ∈ (s.port p).txn, t.writeDone = false

/-- R21, R23, R24, R134, R135, R138: every port's record and segment list is in form, the segment on the memory port has 1 to
16 beats, no segment waits while the memory port is FREE, and nothing due is kept back. -/
abbrev PortsInForm (s : State) : Prop :=
  (∀ p : PortId, (∀ t ∈ (s.port p).txn, TransactionInForm t) ∧ ∀ g ∈ (s.port p).segments, SegmentInForm g)
  ∧ (∀ g ∈ s.memory, SegmentInForm g.segment)
  ∧ (s.memory = none → ∀ p : PortId, (s.port p).segments = [])
  ∧ NothingDue s

/-- R23, R81: the responses a read owes stand in ascending order of their beats, all of them beats it has taken; a deferred
read is not held, and its deferred beat, the newest, is not a REAL one. -/
abbrev ResponsesInForm (s : State) : Prop :=
  ∀ p : PortId, ∀ t ∈ (s.port p).txn, t.dir = .read →
    t.position ≤ t.beats ∧ (t.responses.map (·.beat)).Pairwise (· < ·) ∧ (∀ x ∈ t.responses, x.beat < t.position)
    ∧ (t.deferred = true → t.hold = none ∧ ∀ x ∈ t.responses, x.beat + 1 = t.position → x.mark = none)

/-! ## The form of the ring of each stream (R5, R8, R39, R51, R60, R76) -/

/-- R28: the session a producer transaction is bound to. -/
def producerBinding : TransactionClass → Option Binding
  | .producer b => some b
  | .consumer _ => none
  | .plain => none
  | .straddle => none
  | .observerPass _ => none
  | .observerRefuse _ => none
  | .overRange => none

/-- R28: the session a consumer transaction is bound to. -/
def consumerBinding : TransactionClass → Option Binding
  | .consumer b => some b
  | .producer _ => none
  | .plain => none
  | .straddle => none
  | .observerPass _ => none
  | .observerRefuse _ => none
  | .overRange => none

/-- R38: the transaction `x` is a producer or a consumer transaction. -/
abbrev OnPath (x : Transaction) : Prop := ∃ c ∈ x.cls, producerBinding c ≠ none ∨ consumerBinding c ≠ none

/-- R38: the ports when a reset is taken: each producer or consumer transaction ended with error, every other as it was. -/
def portsAtReset (s : State) : Vector Port 4 :=
  (s.mapPorts fun p port => if ∃ x ∈ port.txn, OnPath x then port.endWithError (s.beatsOnMemory p) else port).ports

/-- R28: a transaction bound to a stream as its producer or its consumer is bound to the session in force at its first
beat: that session is the stream's current one or an earlier one, and in the current one the port is the one the
descriptor names. -/
abbrev BindingInForm (s : State) (p : PortId) (c : TransactionClass) : Prop :=
  (∀ b ∈ producerBinding c,
    b.session ≤ (s.stream b.stream).session
    ∧ (s.live b = true → p = (s.stream b.stream).desc.producerPort ∧ b = s.binding b.stream))
  ∧ ∀ b ∈ consumerBinding c,
    b.session ≤ (s.stream b.stream).session
    ∧ (s.live b = true → p = (s.stream b.stream).desc.consumerPort ∧ b = s.binding b.stream)

/-- R43, R80, R88: a held beat's stream, while its session runs, is HELD, or WAITING with nothing committed. -/
abbrev HoldInForm (s : State) (c : TransactionClass) : Prop :=
  (∀ b ∈ producerBinding c, s.live b = true → (s.stream b.stream).producer.phase = .held)
  ∧ ∀ b ∈ consumerBinding c, s.live b = true →
      (s.stream b.stream).consumer.phase = .waiting ∧ (s.stream b.stream).occupancy = 0

/-- R5, R8, R39, R51, R60, R76: the counts, the cursors and the two lists of a stream that is not CLOSED. -/
abbrev RingInForm (st : Stream) : Prop :=
  (2 ≤ st.desc.depth ∧ st.desc.depth ≤ 4096) ∧ 1 ≤ st.desc.restartLevel
  ∧ st.occupancy + st.producer.inFlight.length ≤ st.usableDepth
  ∧ st.consumer.delivery.length ≤ st.occupancy
  ∧ (st.consumerCursor < st.desc.depth ∧ st.producerCursor = (st.consumerCursor + st.occupancy) % st.desc.depth)
  ∧ (∀ k : Fin st.producer.inFlight.length,
      st.producer.inFlight[k].index = st.committed + BitVec.ofNat 32 k.val
      ∧ st.producer.inFlight[k].slot = (st.producerCursor + k.val) % st.desc.depth)
  ∧ (∀ k : Fin st.consumer.delivery.length,
      st.consumer.delivery[k].index = st.consumed + BitVec.ofNat 32 k.val
      ∧ st.consumer.delivery[k].slot = (st.consumerCursor + k.val) % st.desc.depth)
  ∧ (st.consumer.phase = .underrun ∨ st.consumer.phase = .waiting → st.consumer.delivery = [])
  ∧ (∀ h ∈ st.consumer.heldSlot,
      st.consumer.phase = .underrun ∧ h = (st.consumerCursor + st.desc.depth - 1) % st.desc.depth)

/-- The ring of every stream that is not CLOSED is in form, and so are the bindings and the holds of the ports. -/
abbrev RingsInForm (s : State) : Prop :=
  (∀ i : StreamId, (s.stream i).state ≠ .closed → RingInForm (s.stream i))
  ∧ ∀ p : PortId, ∀ t ∈ (s.port p).txn, ∀ c ∈ t.cls,
      BindingInForm s p c ∧ (t.hold ≠ none → HoldInForm s c)

/-! ## The form of the budget of each stream (R5, R6, R45, R50, R98) -/

/-- R5, R6, R45, R98: the counts of a budgeted stream that is not CLOSED. -/
abbrev BudgetInForm (st : Stream) : Prop :=
  st.desc.budget ≠ 0 →
    st.consumed.toNat ≤ st.committed.toNat ∧ st.committed.toNat ≤ st.budgetNow
    ∧ (∀ n ∈ st.extension, 1 ≤ n) ∧ st.budgetNow + st.extension.getD 0 ≤ 0xFFFFFFFF
    ∧ st.committed.toNat + st.producer.inFlight.length ≤ st.budgetNow + st.extension.getD 0
    ∧ (st.committed.toNat = st.budgetNow → st.producer.phase = .done ∧ st.extension = none)

/-- Every budgeted stream that is not CLOSED keeps C ≤ P ≤ budget_now, and a held producer write (R69) lies below the frame
limit. -/
abbrev BudgetsInForm (s : State) : Prop :=
  (∀ i : StreamId, (s.stream i).state ≠ .closed → BudgetInForm (s.stream i))
  ∧ ∀ p : PortId, ∀ t ∈ (s.port p).txn, t.hold ≠ none → ∀ c ∈ t.cls, ∀ b ∈ producerBinding c,
      s.live b = true → (s.stream b.stream).desc.budget ≠ 0 →
      (s.stream b.stream).committed.toNat + (s.stream b.stream).producer.inFlight.length
        < (s.stream b.stream).budgetNow + (s.stream b.stream).extension.getD 0

/-! ## The form of the management port and the timebase (R151, R159) -/

/-- R151, R159, R161: while PORn is low or CSn is high the management port is IDLE and MISO is high impedance; less than a
byte is in progress; and the divider is 1 to 64. -/
abbrev PinsInForm (s : State) : Prop :=
  (s.porHigh = false ∨ s.csHigh = true → s.spi.phase = .idle)
  ∧ (s.spi.phase = .idle → s.spi.miso = none ∧ s.spi.bitCount = 0)
  ∧ s.spi.bitCount ≤ 7
  ∧ (1 ≤ s.timebase.divider ∧ s.timebase.divider ≤ 64)
  ∧ (1 ≤ s.timebase.nextDivider ∧ s.timebase.nextDivider ≤ 64)
  ∧ s.timebase.count < s.timebase.divider

/-! ## A safe state -/

/-- Every form together. -/
abbrev Safe (s : State) : Prop :=
  NoticesInForm s.queue ∧ TableInForm s ∧ LinesInForm s ∧ PortsInForm s ∧ ResponsesInForm s ∧ RingsInForm s
  ∧ BudgetsInForm s ∧ PinsInForm s

end Sys2Proof.Safety
end

