-- ==== Sys2Proof/Certificates/Slice0/Obligations.lean ====
section
/-! DEFINITION. The statements for the provers. Each says in its docstring which rules of spec/ it formalises. An equation
`exec c s = .next …` gives the whole next state, so it is also the frame of the command: every field it does not name
is as in `s`. Where a next state is written with an operation of the model, a statement says what that operation does:
`settle` ReadDataGoesWhereItsKindSays; `arbitrate`, `freeMemory` and `joinSegment`
SegmentsGrowAndTheArbiterGrantsInCyclicOrder; `fillFrame` FillFrameIsAnsweredByTheFillMode; `drainTest` and `fillRest`
DrainTestClosesAnEmptyDrainingStream; `abandonProducer` AbandonmentReturnsToTheFirstAbandonedFrame; `endWithError`
CloseAbortEndsTheSession; `roomEvent` OverrunResumesWithRoomAndConsent; `paceCount` and `paceTest`
CommitOrConsumeCountsThePacket; `producerOkay`, `commit` and `decideDeferred` OkayCompletionCommitsTheFramesItEnds;
`realReturned`, `consume` and `afterConsume` ReturnOfTheLastBeatConsumesTheFrame; `budgetTest` and `endTest`
BudgetAndEndTestsActAtTheLimit; `spanConsume` and the span state's operations CompletedSpanIsComparedUnlessVoid. -/

open Sys2Proof Sys2Proof.Machine Sys2Proof.Safety

/-! ## The machine -/

/-- One step takes the command at the front of the queue and is exec of it on the state with the queue's rest. -/
def Obligations.StepRunsTheFrontCommand : Prop :=
  ∀ (s : State) (c : Instr) (rest : List Instr),
    step { s with pending := c :: rest } = exec c { s with pending := rest }

/-- On an empty queue a REFCLK period passes (the model's choice, log entry 13): the count of R159 rises by one, and
where it reaches the divider the microsecond tick is taken instead. While PORn is low nothing happens. R26, R159: a
microsecond tick adds 1 to the count of every running hold timer that has not reached its limit, and starts the next
interval of the timebase at count 0 with the divider set last; while PORn is low no tick is taken. -/
def Obligations.ClockAndMicrosecondTick : Prop :=
  (∀ s : State, s.pending = [] →
      (s.porHigh = false → step s = .next s)
      ∧ (s.porHigh = true → s.timebase.count + 1 < s.timebase.divider →
          step s = .next { s with timebase := { s.timebase with count := s.timebase.count + 1 } })
      ∧ (s.porHigh = true → s.timebase.divider ≤ s.timebase.count + 1 → step s = exec .microsecondTick s))
  ∧ (∀ s : State,
        (s.porHigh = false → exec .microsecondTick s = .next s)
        ∧ (s.porHigh = true → ∃ t, exec .microsecondTick s = .next t
            ∧ t.timebase = { divider := s.timebase.nextDivider, nextDivider := s.timebase.nextDivider, count := 0 }
            ∧ (∀ p : PortId, (s.port p).txn = none → t.port p = s.port p)
            ∧ (∀ (p : PortId) (x : Transaction), (s.port p).txn = some x →
                (x.hold = none → t.port p = s.port p)
                ∧ ∀ h : Hold, x.hold = some h →
                    (h.count < h.limit →
                      t.port p = { s.port p with txn := some { x with hold := some { h with count := h.count + 1 } } })
                    ∧ (h.limit ≤ h.count → t.port p = s.port p))
            ∧ { t with ports := s.ports, timebase := s.timebase } = s))

/-- Every command is answered or ignored, in every state, with a next state, and leaves the queue of waiting commands as
it is. That a command which the pins, the buses or the management port cannot show in that state is ignored and changes
nothing is the model's choice (log entries 2 and 11), and so is the answer in states that no run reaches (log entry 18). -/
def Obligations.EveryCommandCompletesAndKeepsTheQueue : Prop :=
  ∀ (c : Instr) (s : State), ∃ t, exec c s = .next t ∧ t.pending = s.pending

/-! ## Command frames (R152, R156, R163) -/

/-- R152, R156: the frame of every command row decodes to that command, with every operand at every value. R152,
R156: a complete frame that decodes to a command is that command's frame: no byte of it is dropped. -/
def Obligations.CommandFramesAndCommandsAgree : Prop :=
  (∀ (c : Instr) (frame : List Byte), c.frame = some frame →
      2 ≤ frame.length ∧ decodeFrame (frame.getD 0 0#8) (frame.getD 1 0#8) (frame.drop 2) = some c)
  ∧ (∀ (code target : Byte) (args : List Byte) (c : Instr),
        decodeFrame code target args = some c → c.frame = some (code :: target :: args))

/-- R156, R163: the fields of the descriptor stand at their offsets in OPEN's 28 argument bytes, most significant
byte first. R2, R3, R17, R163: the descriptor an accepted OPEN stores reads back in the layout it came in, with a
limit its policy does not use as 0, and carries frame_bytes and the body. -/
def Obligations.DescriptorFieldsStandAtTheirOffsetsAndReadBack : Prop :=
  (∀ b : Vector Byte 28,
      (RawDescriptor.ofBytes b.toList).base
        = BitVec.ofNat 32 (((b[0].toNat * 256 + b[1].toNat) * 256 + b[2].toNat) * 256 + b[3].toNat)
      ∧ (RawDescriptor.ofBytes b.toList).channels = b[4] ∧ (RawDescriptor.ofBytes b.toList).sampleBytes = b[5]
      ∧ (RawDescriptor.ofBytes b.toList).depth = BitVec.ofNat 16 (b[6].toNat * 256 + b[7].toNat)
      ∧ (RawDescriptor.ofBytes b.toList).producerPort = b[8] ∧ (RawDescriptor.ofBytes b.toList).consumerPort = b[9]
      ∧ (RawDescriptor.ofBytes b.toList).observerPolicy = b[10] ∧ (RawDescriptor.ofBytes b.toList).fullPolicy = b[11]
      ∧ (RawDescriptor.ofBytes b.toList).stallLimit = b[12] ∧ (RawDescriptor.ofBytes b.toList).emptyPolicy = b[13]
      ∧ (RawDescriptor.ofBytes b.toList).waitLimit = b[14] ∧ (RawDescriptor.ofBytes b.toList).fillMode = b[15]
      ∧ (RawDescriptor.ofBytes b.toList).fillWord
        = BitVec.ofNat 32 (((b[16].toNat * 256 + b[17].toNat) * 256 + b[18].toNat) * 256 + b[19].toNat)
      ∧ (RawDescriptor.ofBytes b.toList).restartLevel = BitVec.ofNat 16 (b[20].toNat * 256 + b[21].toNat)
      ∧ (RawDescriptor.ofBytes b.toList).autoResume = b[22]
      ∧ (RawDescriptor.ofBytes b.toList).spanLength = BitVec.ofNat 16 (b[23].toNat * 256 + b[24].toNat)
      ∧ (RawDescriptor.ofBytes b.toList).budget
        = BitVec.ofNat 24 ((b[25].toNat * 256 + b[26].toNat) * 256 + b[27].toNat))
  ∧ (∀ r : RawDescriptor, DescriptorInRange r →
        (storedDescriptor r).toRaw =
          { r with stallLimit := if r.fullPolicy = 1#8 then r.stallLimit else 0#8
                   waitLimit := if r.emptyPolicy = 1#8 then r.waitLimit else 0#8 }
        ∧ (storedDescriptor r).frameBytes = r.channels.toNat * r.sampleBytes.toNat
        ∧ (storedDescriptor r).bodyLast.toNat + 1
            = r.base.toNat + r.depth.toNat * (r.channels.toNat * r.sampleBytes.toNat))

/-! ## The management port (R151 to R156) -/

/-- R151, R152: shifting in a whole command frame after CSn has fallen, edge by edge, has exactly the effect of the
frame's row of the table. That a row stands for the instant the last byte of its frame is received is the model's choice
(log entry 11). -/
def Obligations.ShiftingInAFrameRunsItsCommand : Prop :=
  ∀ (s : State) (c : Instr) (frame : List Byte), c.frame = some frame →
    s.porHigh = true → s.csHigh = false → s.spi.phase = .summary → s.spi.frame = [] → s.spi.bitCount = 0 →
    s.spi.shiftIn = 0#8 →
    runAll (frameEdges frame) s = exec c s

/-- R151: an edge of SCK that does not complete a byte: a rising edge takes one bit of MOSI, most significant first;
a falling edge puts the next bit of the byte being shifted out onto MISO. An edge is ignored while CSn is high,
while PORn is low, and while the port is IDLE. R151 to R153, R155: the eighth rising edge receives a byte. Byte 0
clears the truncated flag and enters FRAME or REJECT; a byte of an incomplete frame is collected and 0x00 follows;
in RESULT the bytes sent are ignored and the result bytes follow, then 0x00; in REJECT every byte is answered
UNKNOWN. -/
def Obligations.SckEdgesShiftBitsAndReceiveBytes : Prop :=
  (∀ (s : State) (mosi : Bool),
      (s.porHigh = true → s.csHigh = false → s.spi.phase ≠ .idle →
        (s.spi.bitCount < 7 →
          exec (.sckEdge (.rising mosi)) s =
            .next { s with spi := { s.spi with bitCount := s.spi.bitCount + 1
                                               shiftIn := BitVec.ofNat 8 (2 * s.spi.shiftIn.toNat + mosi.toNat) } })
        ∧ (s.spi.bitCount ≤ 7 →
          exec (.sckEdge .falling) s =
            .next { s with spi := { s.spi with miso := some (s.spi.outByte.getLsbD (7 - s.spi.bitCount)) } }))
      ∧ (s.porHigh = false ∨ s.csHigh = true ∨ s.spi.phase = .idle →
          exec (.sckEdge (.rising mosi)) s = .next s ∧ exec (.sckEdge .falling) s = .next s))
  ∧ (∀ (s : State) (mosi : Bool) (b : Byte), b = BitVec.ofNat 8 (2 * s.spi.shiftIn.toNat + mosi.toNat) →
        s.porHigh = true → s.csHigh = false → s.spi.bitCount = 7 →
        (s.spi.phase = .summary → argumentBytes b ≠ none →
          exec (.sckEdge (.rising mosi)) s =
            .next { s with spi := { s.spi with phase := .frame, frame := [b], bitCount := 0, shiftIn := 0#8,
                                               outByte := 0x00#8, truncated := false } })
        ∧ (s.spi.phase = .summary → argumentBytes b = none →
          exec (.sckEdge (.rising mosi)) s =
            .next { s with spi := { s.spi with phase := .reject, frame := [b], bitCount := 0, shiftIn := 0#8,
                                               outByte := 0x0F#8, truncated := false } })
        ∧ (s.spi.phase = .frame → argumentBytes ((s.spi.frame ++ [b]).getD 0 0#8) ≠ some (s.spi.frame.length - 1) →
            1 ≤ s.spi.frame.length →
          exec (.sckEdge (.rising mosi)) s =
            .next { s with spi := { s.spi with frame := s.spi.frame ++ [b], bitCount := 0, shiftIn := 0#8,
                                               outByte := 0x00#8 } })
        ∧ (s.spi.phase = .result →
          exec (.sckEdge (.rising mosi)) s =
            .next { s with spi := { s.spi with bitCount := 0, shiftIn := 0#8, outByte := s.spi.outQueue.headD 0x00#8,
                                               outQueue := s.spi.outQueue.drop 1 } })
        ∧ (s.spi.phase = .reject →
          exec (.sckEdge (.rising mosi)) s =
            .next { s with spi := { s.spi with bitCount := 0, shiftIn := 0#8, outByte := 0x0F#8 } }))

/-- R155: where byte 0 carries a code that names no command, the port enters REJECT, its next byte is UNKNOWN, and
the truncated flag is cleared; nothing else changes. -/
def Obligations.UnknownCodeIsRejected : Prop :=
  ∀ (s : State) (code : Byte), s.porHigh = true → s.csHigh = false → s.spi.awaits [code] = true →
    argumentBytes code = none →
    exec (.unknown code) s =
      .next { s with spi := { s.spi with phase := .reject, frame := [code], bitCount := 0, shiftIn := 0#8,
                                         outByte := 0x0F#8, truncated := false,
                                         miso := some (s.spi.outByte.getLsbD 0) } }

/-- R153, R162: at CSn falling the summary byte is formed from the notice count, the alert level and the truncated
flag, and its bit 7 is driven onto MISO. While PORn is low the port ignores the edge (R161). R151, R154: at CSn
rising the port becomes IDLE with MISO high impedance; the flag is set where a command was cut short, and kept
otherwise; no soft reset is pending. While PORn is low the port ignores the edge (R161). -/
def Obligations.CsnEdgesBeginAndEndATransaction : Prop :=
  (∀ s : State, s.csHigh = true →
      (s.porHigh = true → s.queue.records.length ≤ 32 →
        exec .csnFall s =
          .next { s with
            csHigh := false
            spi := { s.spi with
              phase := .summary, frame := [], bitCount := 0, shiftIn := 0#8, outQueue := []
              outByte := BitVec.ofNat 8 ((if s.spi.truncated then 128 else 0)
                + (if ∃ n ∈ s.queue.records, s.queue.mask.getLsbD n.kind.code = true then 0 else 64)
                + s.queue.records.length)
              miso := some s.spi.truncated } })
      ∧ (s.porHigh = false → exec .csnFall s = .next { s with csHigh := false }))
  ∧ (∀ s : State, s.csHigh = false →
        (s.porHigh = true → s.spi.resetPending = false →
          exec .csnRise s =
            .next { s with
              csHigh := true
              spi := { phase := .idle, frame := [], bitCount := 0, shiftIn := 0#8, outByte := 0#8, outQueue := [],
                       miso := none, resetPending := false
                       truncated := s.spi.truncated || decide (s.spi.phase = .frame)
                         || (decide (s.spi.phase = .summary) && decide (s.spi.bitCount ≠ 0)) } })
        ∧ (s.porHigh = false → exec .csnRise s = .next { s with csHigh := true }))

/-- R160 with R20, R113, R124, R138, R147, R149, R150, R159: a pending soft reset takes effect at CSn rising: every
stream record, the integrity values, the pace lines, the arbiter's pointer, the Notice Queue and the timebase take
their reset values, STARTED is posted with value1 2, and the management port is IDLE. R161 with R20, R113, R124,
R138, R147, R149, R159: PORn going low resets every block at once and the management port with them; the Notice
Queue stays empty until PORn rises. R150: when PORn rises, STARTED is offered with value1 1; on the queue that the
reset has left empty it is the only record, with sequence number 0. -/
def Obligations.BothResetsGiveTheResetValues : Prop :=
  (∀ s : State, s.porHigh = true → s.csHigh = false → s.spi.resetPending = true →
      ∃ t, exec .csnRise s = .next t
        ∧ t.porHigh = true ∧ t.csHigh = true ∧ t.spi.phase = .idle ∧ t.spi.miso = none ∧ t.spi.resetPending = false
        ∧ (∀ i : StreamId, t.stream i = Stream.reset (s.stream i).session)
        ∧ t.polynomial = 0x04C11DB7#32 ∧ t.initial = 0xFFFFFFFF#32
        ∧ (∀ l : LineId, t.line l = Line.reset)
        ∧ t.lastGranted = 3
        ∧ t.queue = { records := [startedNotice 2#32], sequence := 1#8, mask := 0x9806#16 }
        ∧ t.timebase = { divider := 16, nextDivider := 16, count := 0 }
        ∧ t.pending = s.pending ∧ t.choices = s.choices)
  ∧ (∀ s : State, s.porHigh = true →
        ∃ t, exec .powerOnReset s = .next t
          ∧ t.porHigh = false ∧ t.csHigh = s.csHigh
          ∧ t.spi = { phase := .idle, frame := [], bitCount := 0, shiftIn := 0#8, outByte := 0#8, outQueue := [],
                      miso := none, truncated := false, resetPending := false }
          ∧ (∀ i : StreamId, t.stream i = Stream.reset (s.stream i).session)
          ∧ t.polynomial = 0x04C11DB7#32 ∧ t.initial = 0xFFFFFFFF#32
          ∧ (∀ l : LineId, t.line l = Line.reset)
          ∧ t.lastGranted = 3
          ∧ t.queue = { records := [], sequence := 0#8, mask := 0x9806#16 }
          ∧ t.timebase = { divider := 16, nextDivider := 16, count := 0 }
          ∧ t.pending = s.pending ∧ t.choices = s.choices)
  ∧ (∀ s : State, s.porHigh = false →
        exec .powerOnResetEnd s =
          .next { s with porHigh := true, queue := s.queue.post .started 0#8 .none 1#32 0#32 }
        ∧ (s.queue.records = [] → s.queue.sequence = 0#8 →
            s.queue.post .started 0#8 .none 1#32 0#32
              = { records := [startedNotice 1#32], sequence := 1#8, mask := s.queue.mask }))

/-- R38, R140, R160: at either reset each producer or consumer transaction is ended with error (as
CloseAbortEndsTheSession says of `endWithError`), and every other is left to go on, a write with no class yet too (log
entry 14); the result of a stream segment on the memory port is discarded, also of one whose session a drain had closed
(log entry 24); then what is due is returned. With no beat of the port on the memory port a read is over at once: its
known responses and ERROR for each beat not answered are returned. A write with every beat accepted completes ERROR; one
with beats to come goes on, and waits with no segment. -/
def Obligations.ResetEndsStreamTransactionsOnly : Prop :=
  (∀ (s : State) (p : PortId), PortsInForm s → s.porHigh = true →
    ∃ t, exec .powerOnReset s = .next t
      ∧ ((s.port p).txn = none → t.port p = s.port p)
      ∧ (∀ x ∈ (s.port p).txn, ∀ c ∈ x.cls, producerBinding c = none → consumerBinding c = none → t.port p = s.port p)
      ∧ (∀ x ∈ (s.port p).txn, ∀ c ∈ x.cls, producerBinding c ≠ none ∨ consumerBinding c ≠ none →
          (t.port p).segments = [] ∧ ∀ y ∈ (t.port p).txn, y.hold = none ∧ y.endedWithError = true)
      ∧ t.memory = s.memory.map fun g =>
          { g with discarded := g.discarded || !(g.segment.kind == .plain || g.segment.kind == .pass) })
  ∧ (∀ (s : State) (c : Instr), s.porHigh = true →
      c = .powerOnReset ∨ c = .csnRise ∧ s.csHigh = false ∧ s.spi.resetPending = true →
      (∃ t u : State, exec c s = .next t ∧ t = u.settle
        ∧ u.ports = portsAtReset s
        ∧ (∀ i : StreamId, u.stream i = Stream.reset (s.stream i).session)
        ∧ u.memory = s.memory.map fun g =>
            { g with discarded := g.discarded || !(g.segment.kind == .plain || g.segment.kind == .pass) })
      ∧ ∀ (p : PortId) (x : Transaction), PortsInForm s → (s.port p).txn = some x →
          ∃ t, exec c s = .next t
            ∧ (x.cls = none → t.port p = s.port p)
            ∧ (OnPath x → s.beatsOnMemory p = [] →
                (x.dir = .read → x.responses ≠ [] ∨ x.position < x.beats →
                  t.port p =
                    { s.port p with
                      txn := none, segments := [], newestOpen := false
                      returned := (s.port p).returned
                        ++ (x.responses.map fun y => y.value.getD { data := 0#32, status := .error })
                        ++ List.replicate (x.beats - x.position) { data := 0#32, status := .error } })
                ∧ (x.dir = .write → x.position = x.beats →
                  t.port p =
                    { s.port p with txn := none, segments := [], newestOpen := false, completion := some .error })
                ∧ (x.dir = .write → x.position < x.beats →
                  t.port p =
                    { s.port p with
                      segments := [], newestOpen := false
                      txn := some { x with hold := none, deferred := false, anyError := true, endedWithError := true
                                           outstanding := 0 } })))

/-! ## OPEN and STATUS (R12 to R19, R163, R164) -/

/-- R12: an OPEN answers the code of its first failing check, in the order target, STATE, RANGE (R2, R3, R13), SPAN
(R14), CONFLICT (R15), OVERLAP (R16), and changes nothing else; an OPEN that passes all six answers OK and has the effects
of R17: it starts the session with the context of R17 and the span state of R114. The number of the session is the
model's own (log entry 4). -/
def Obligations.OpenAnswersItsFirstFailingCheckOrStartsTheStream : Prop :=
  (∀ (s : State) (target : Byte) (r : RawDescriptor), Receiving s (.openStream target r) →
        (16 ≤ target.toNat → exec (.openStream target r) s = .next (answered s (.openStream target r) 0x03#8 []))
        ∧ ∀ i : StreamId, target.toNat = i.val →
            ((s.stream i).state ≠ .closed →
              exec (.openStream target r) s = .next (answered s (.openStream target r) 0x02#8 []))
            ∧ ((s.stream i).state = .closed → ¬ DescriptorInRange r →
              exec (.openStream target r) s = .next (answered s (.openStream target r) 0x03#8 []))
            ∧ ((s.stream i).state = .closed → DescriptorInRange r → ¬ SpanFits r →
              exec (.openStream target r) s = .next (answered s (.openStream target r) 0x04#8 []))
            ∧ ((s.stream i).state = .closed → DescriptorInRange r → SpanFits r → ¬ PortsFit r →
              exec (.openStream target r) s = .next (answered s (.openStream target r) 0x05#8 []))
            ∧ ((s.stream i).state = .closed → DescriptorInRange r → SpanFits r → PortsFit r → ¬ BodyFree s i r →
              exec (.openStream target r) s = .next (answered s (.openStream target r) 0x06#8 [])))
  ∧ (∀ (s : State) (i : StreamId) (target : Byte) (r : RawDescriptor),
        target.toNat = i.val → Receiving s (.openStream target r) → (s.stream i).state = .closed →
        DescriptorInRange r → SpanFits r → PortsFit r → BodyFree s i r →
        exec (.openStream target r) s =
          .next { answered s (.openStream target r) 0x01#8 [] with
            streams := s.streams.set i
              { desc := storedDescriptor r, state := .opened, committed := 0#32, consumed := 0#32, producerCursor := 0,
                consumerCursor := 0, budgetNow := r.budget.toNat, extension := none, overrunAcked := false,
                underrunAcked := false, counters := ⟨0, 0, 0, 0, 0, 0, 0, 0⟩, session := (s.stream i).session + 1
                producer := { phase := .flowing, placement := .inStep, position := 0, treatment := .none, inFlight := [],
                              tally := 0#32, nextEntry := 0 }
                consumer := { phase := .flowing, placement := .inStep, position := 0, verdict := .none, delivery := [],
                              tally := 0#32, heldSlot := none, holdSource := .word, deliveredOnce := false,
                              nextEntry := 0 }
                span := if r.spanLength = 0#16 then none
                  else some { producerAcc := s.initial, producerRecords := [], producerSpan := 0#32, queue := [],
                              consumerAcc := s.initial, consumerRecord := none, spanVoid := false,
                              consumerSpan := 0#32 } } })

/-- R18: STATUS answers OK with the 77 bytes of the target's record as it stands, and RANGE for a target above 15;
it changes no state but the port's own. R164: the fields of a STATUS record stand at their offsets, most significant
byte first. -/
def Obligations.StatusReturnsTheRecordFieldByField : Prop :=
  (∀ (s : State) (i : StreamId) (target : Byte), target.toNat = i.val → Receiving s (.status target) →
      exec (.status target) s = .next (answered s (.status target) 0x01#8 (s.stream i).statusBytes)
      ∧ (s.stream i).statusBytes.length = 77)
  ∧ (∀ (s : State) (target : Byte), 16 ≤ target.toNat → Receiving s (.status target) →
      exec (.status target) s = .next (answered s (.status target) 0x03#8 []))
  ∧ (∀ st : Stream,
        fieldAt st.statusBytes 0 1
          = (match st.state with | .closed => 0 | .opened => 1 | .draining => 2 | .ended => 3)
        ∧ (st.statusBytes.drop 1).take 28 = st.desc.toRaw.toBytes
        ∧ fieldAt st.statusBytes 29 1 = st.desc.frameBytes % 256
        ∧ fieldAt st.statusBytes 30 4 = st.committed.toNat ∧ fieldAt st.statusBytes 34 4 = st.consumed.toNat
        ∧ fieldAt st.statusBytes 38 4 = st.budgetNow % 0x100000000
        ∧ fieldAt st.statusBytes 42 3 = st.extension.getD 0 % 0x1000000
        ∧ fieldAt st.statusBytes 45 1
          = st.extension.isSome.toNat + 2 * st.consumer.heldSlot.isSome.toNat
            + 4 * (decide (st.producer.inFlight ≠ [])).toNat + 8 * st.overrunAcked.toNat + 16 * st.underrunAcked.toNat
        ∧ fieldAt st.statusBytes 46 1
          = (match st.producer.phase with | .flowing => 0 | .held => 1 | .overrun => 2 | .done => 3)
            + (if st.producer.placement = .lost then 4 else 0)
            + (match st.consumer.phase with | .flowing => 0 | .waiting => 16 | .underrun => 32 | .done => 48)
            + (if st.consumer.placement = .lost then 64 else 0)
        ∧ fieldAt st.statusBytes 47 1
          = (match st.consumer.verdict with | .none => 0 | .real => 1 | .fill => 2 | .lostFill => 3)
        ∧ fieldAt st.statusBytes 48 1 = st.producer.position % 256
        ∧ fieldAt st.statusBytes 49 1 = st.consumer.position % 256
        ∧ fieldAt st.statusBytes 50 2 = st.consumer.heldSlot.getD 0 % 65536
        ∧ fieldAt st.statusBytes 52 4 = st.producer.tally.toNat ∧ fieldAt st.statusBytes 56 4 = st.consumer.tally.toNat
        ∧ fieldAt st.statusBytes 60 2 = st.counters.absorbed.toNat
        ∧ fieldAt st.statusBytes 62 2 = st.counters.filled.toNat
        ∧ fieldAt st.statusBytes 64 2 = st.counters.excess.toNat
        ∧ fieldAt st.statusBytes 66 2 = st.counters.producerLosses.toNat
        ∧ fieldAt st.statusBytes 68 2 = st.counters.consumerLosses.toNat
        ∧ fieldAt st.statusBytes 70 2 = st.counters.mismatches.toNat
        ∧ fieldAt st.statusBytes 72 2 = st.counters.voidSpans.toNat
        ∧ fieldAt st.statusBytes 74 2 = st.counters.memoryFaults.toNat
        ∧ fieldAt st.statusBytes 76 1 = (match st.span with | none => 0 | some sp => sp.queue.length % 256))

/-! ## CLOSE (R105 to R110) -/

/-- R105: the target and state checks of CLOSE answer RANGE or STATE and change nothing else; so does a CLOSE frame whose
mode is neither DRAIN nor ABORT, which comes edge by edge: at its last rising edge it answers RANGE. R109, R11, R133:
CLOSE of either mode on an ENDED stream closes it at once: the record as R11 gives, its lines UNBOUND, and no notice. -/
def Obligations.CloseIsRefusedOrEndsAnEndedStream : Prop :=
  (∀ (s : State) (target : Byte) (i : StreamId),
      (Receiving s (.closeDrain target) →
        (16 ≤ target.toNat → exec (.closeDrain target) s = .next (answered s (.closeDrain target) 0x03#8 []))
        ∧ (target.toNat = i.val → (s.stream i).state = .closed ∨ (s.stream i).state = .draining →
            exec (.closeDrain target) s = .next (answered s (.closeDrain target) 0x02#8 [])))
      ∧ (Receiving s (.closeAbort target) →
        (16 ≤ target.toNat → exec (.closeAbort target) s = .next (answered s (.closeAbort target) 0x03#8 []))
        ∧ (target.toNat = i.val → (s.stream i).state = .closed →
            exec (.closeAbort target) s = .next (answered s (.closeAbort target) 0x02#8 []))))
  ∧ (∀ (s : State) (target mode : Byte) (mosi : Bool), s.porHigh = true → s.csHigh = false → s.spi.phase = .frame →
      s.spi.frame = [0x11#8, target] → s.spi.bitCount = 7 →
      mode = BitVec.ofNat 8 (2 * s.spi.shiftIn.toNat + mosi.toNat) → 2 ≤ mode.toNat →
      exec (.sckEdge (.rising mosi)) s = .next { s with spi := resultPort s.spi [0x11#8, target, mode] 0x03#8 [] })
  ∧ (∀ (s : State) (i : StreamId) (target : Byte), target.toNat = i.val → (s.stream i).state = .ended →
        (Receiving s (.closeDrain target) →
          exec (.closeDrain target) s =
            .next { answered s (.closeDrain target) 0x01#8 [] with
              streams := s.streams.set i (closedByRule (s.stream i)), lines := linesUnbound s i })
        ∧ (Receiving s (.closeAbort target) →
          exec (.closeAbort target) s =
            .next { answered s (.closeAbort target) 0x01#8 [] with
              streams := s.streams.set i (closedByRule (s.stream i)), lines := linesUnbound s i }))

/-- R106, R132: CLOSE DRAIN on an OPEN stream whose producer is not HELD sets the state to DRAINING, drops a producer
line that is GRANTED or IN_PACKET (R129: a drop is tested for both lines), and makes the drain test. R67, R102, R106,
R129: CLOSE DRAIN on an OPEN stream whose producer is HELD also releases the held write; its frame is absorbed as an
excess frame, the first of the session with an EXCESS notice, and the side's return to FLOWING tests both lines (log
entry 15). -/
def Obligations.CloseDrainBeginsTheDrain : Prop :=
  (∀ (s : State) (i : StreamId) (target : Byte), target.toNat = i.val → Receiving s (.closeDrain target) →
      (s.stream i).state = .opened → (s.stream i).producer.phase ≠ .held →
      exec (.closeDrain target) s =
        .next (State.settle (State.drainTest
          { answered s (.closeDrain target) 0x01#8 [] with
            streams := s.streams.set i { s.stream i with state := .draining }
            lines := linesDropped s i .producer { s.stream i with state := .draining } } i)))
  ∧ (∀ (s : State) (i : StreamId) (p : PortId) (target : Byte), target.toNat = i.val → Receiving s (.closeDrain target) →
        (s.stream i).state = .opened → (s.stream i).producer.phase = .held → p = (s.stream i).desc.producerPort →
        exec (.closeDrain target) s =
          .next (State.settle (State.drainTest
            { answered s (.closeDrain target) 0x01#8 [] with
              streams := s.streams.set i
                { s.stream i with
                  state := .draining
                  producer := { (s.stream i).producer with
                    phase := .flowing
                    position := positionAfterStart (s.stream i)
                    treatment := if (s.stream i).desc.frameBytes = 4 then .none else .absorb }
                  counters := { (s.stream i).counters with excess := counterUp (s.stream i).counters.excess } }
              ports := s.ports.set p
                { s.port p with txn := (s.port p).txn.map fun t => { t with hold := none }, newestOpen := false }
              queue := if (s.stream i).counters.excess = 0#16 then
                  s.queue.post .excess (streamSubject i) .producer (s.stream i).committed 0#32
                else s.queue
              lines := linesDropped
                { s with lines := linesTested s i { s.stream i with state := .draining } } i .producer
                { s.stream i with state := .draining } } i)))

/-- R108, R11, R36, R133: the drain test passes in a DRAINING stream with occupancy 0 and no frame in flight, and
then the stream becomes CLOSED, a held or deferred consumer read and the rest of it are answered with fill_word, the
lines bound to the stream become UNBOUND, and DRAINED is posted with C. Otherwise the test does nothing. R36, R108:
at drain completion the held or deferred beat of a consumer read, its newest, and every later beat are answered with
fill_word, OKAY; responses already known keep their values, and the hold ends. -/
def Obligations.DrainTestClosesAnEmptyDrainingStream : Prop :=
  (∀ (s : State) (i : StreamId),
      ((s.stream i).state ≠ .draining ∨ (s.stream i).committed ≠ (s.stream i).consumed
        ∨ (s.stream i).producer.inFlight ≠ [] → s.drainTest i = s)
      ∧ ((s.stream i).state = .draining → (s.stream i).committed = (s.stream i).consumed →
          (s.stream i).producer.inFlight = [] →
          s.drainTest i =
            { s with
              streams := s.streams.set i (closedByRule (s.stream i))
              lines := linesUnbound s i
              queue := s.queue.post .drained (streamSubject i) .none (s.stream i).consumed 0#32
              ports := match s.consumerTxn i with
                | some t =>
                    if t.hold ≠ none ∨ t.deferred = true then
                      s.ports.set (s.stream i).desc.consumerPort
                        { s.port (s.stream i).desc.consumerPort with
                          txn := some (t.fillRest (s.stream i).desc.fillWord) }
                    else s.ports
                | none => s.ports }))
  ∧ (∀ (t : Transaction) (owed : List ResponseSlot) (word : Word), TransactionInForm t → t.dir = .read →
        t.responses = owed ++ [{ beat := t.position - 1, mark := none, value := none }] →
        (∀ x ∈ owed, x.beat < t.position - 1) →
        t.fillRest word =
          { t with
            position := t.beats, hold := none, deferred := false
            responses := owed ++ (List.range' (t.position - 1) (t.beats - t.position + 1)).map fun k =>
              { beat := k, mark := none, value := some { data := word, status := .okay } } })

/-- R110, R37, R137, R140: CLOSE ABORT on an OPEN or DRAINING stream closes it at once: the producer and consumer
transactions of its session are ended with error, a segment of the session on the memory port has its result
discarded, its lines become UNBOUND, and ABORTED is posted with C. R37, R38, R137: a transaction ended with error
leaves HELD and waits with no segment. A write goes on as one that has had an error. A read has every beat taken; a
response already known stands, a beat on the memory port stays owed, and every other beat is answered ERROR with
data 0, the beats never taken too. -/
def Obligations.CloseAbortEndsTheSession : Prop :=
  (∀ (s : State) (i : StreamId) (target : Byte), target.toNat = i.val → Receiving s (.closeAbort target) →
      (s.stream i).state = .opened ∨ (s.stream i).state = .draining →
      exec (.closeAbort target) s =
        .next (State.settle
          { answered s (.closeAbort target) 0x01#8 [] with
            streams := s.streams.set i (closedByRule (s.stream i))
            lines := linesUnbound s i
            queue := s.queue.post .aborted (streamSubject i) .none (s.stream i).consumed 0#32
            memory := s.memory.map fun g =>
              { g with discarded := g.discarded
                  || (!(g.segment.kind == .plain || g.segment.kind == .pass)
                    && g.segment.binding == some (s.binding i)) }
            ports := (s.mapPorts fun p port =>
              if port.txn.bind (·.cls) = some (.producer (s.binding i))
                  ∨ port.txn.bind (·.cls) = some (.consumer (s.binding i)) then
                port.endWithError (s.beatsOnMemory p)
              else port).ports }))
  ∧ (∀ (port : Port) (t : Transaction) (onMemory : List SegmentBeat), port.txn = some t → TransactionInForm t →
        (t.dir = .write →
          port.endWithError onMemory =
            { port with
              segments := [], newestOpen := false
              txn := some { t with hold := none, deferred := false, anyError := true, endedWithError := true
                                   outstanding := onMemory.length } })
        ∧ (t.dir = .read →
          port.endWithError onMemory =
            { port with
              segments := [], newestOpen := false
              txn := some { t with
                hold := none, deferred := false, anyError := true, endedWithError := true
                outstanding := onMemory.length, position := t.beats
                responses :=
                  (t.responses.map fun x =>
                    { x with
                      mark := none
                      value := if x.value ≠ none ∨ ∃ y ∈ onMemory, y.beat = x.beat then x.value
                        else some { data := 0#32, status := .error } })
                  ++ (List.range' t.position (t.beats - t.position)).map fun k =>
                      { beat := k, mark := none, value := some { data := 0#32, status := .error } } } }))

/-! ## EXTEND and ACKNOWLEDGE (R72, R95, R100) -/

/-- R100: EXTEND answers the first check that applies; where none does, the number is stored as the extension. -/
def Obligations.ExtendFollowsItsChecks : Prop :=
  ∀ (s : State) (i : StreamId) (target : Byte) (frames : BitVec 24), Receiving s (.extend target frames) →
    (16 ≤ target.toNat → exec (.extend target frames) s = .next (answered s (.extend target frames) 0x03#8 []))
    ∧ (target.toNat = i.val →
        ((s.stream i).state ≠ .opened ∨ (s.stream i).desc.budget = 0 →
          exec (.extend target frames) s = .next (answered s (.extend target frames) 0x02#8 []))
        ∧ ((s.stream i).state = .opened → (s.stream i).desc.budget ≠ 0 →
          ((s.stream i).producer.phase = .done →
            exec (.extend target frames) s = .next (answered s (.extend target frames) 0x07#8 []))
          ∧ ((s.stream i).producer.phase ≠ .done → (s.stream i).extension ≠ none →
            exec (.extend target frames) s = .next (answered s (.extend target frames) 0x08#8 []))
          ∧ ((s.stream i).producer.phase ≠ .done → (s.stream i).extension = none →
              frames = 0#24 ∨ 4294967295 < (s.stream i).budgetNow + frames.toNat →
            exec (.extend target frames) s = .next (answered s (.extend target frames) 0x03#8 []))
          ∧ ((s.stream i).producer.phase ≠ .done → (s.stream i).extension = none → frames ≠ 0#24 →
              (s.stream i).budgetNow + frames.toNat ≤ 4294967295 →
            exec (.extend target frames) s =
              .next { answered s (.extend target frames) 0x01#8 [] with
                streams := s.streams.set i { s.stream i with extension := some frames.toNat } })))

/-- R72: ACKNOWLEDGE for the producer side: RANGE, STATE, OK in OVERRUN with the flag set, NONE in any other phase.
R95: ACKNOWLEDGE for the consumer side: RANGE, STATE, OK in UNDERRUN with the flag set, NONE in any other phase. R72: an
ACKNOWLEDGE frame whose side is neither, which comes edge by edge, answers RANGE at its last rising edge and changes
nothing else. -/
def Obligations.AcknowledgeFollowsItsChecks : Prop :=
  (∀ (s : State) (i : StreamId) (target : Byte), Receiving s (.acknowledgeProducer target) →
      (16 ≤ target.toNat →
        exec (.acknowledgeProducer target) s = .next (answered s (.acknowledgeProducer target) 0x03#8 []))
      ∧ (target.toNat = i.val →
          ((s.stream i).state = .closed →
            exec (.acknowledgeProducer target) s = .next (answered s (.acknowledgeProducer target) 0x02#8 []))
          ∧ ((s.stream i).state ≠ .closed → (s.stream i).producer.phase ≠ .overrun →
            exec (.acknowledgeProducer target) s = .next (answered s (.acknowledgeProducer target) 0x09#8 []))
          ∧ ((s.stream i).state ≠ .closed → (s.stream i).producer.phase = .overrun →
            exec (.acknowledgeProducer target) s =
              .next { answered s (.acknowledgeProducer target) 0x01#8 [] with
                streams := s.streams.set i { s.stream i with overrunAcked := true } })))
  ∧ (∀ (s : State) (i : StreamId) (target : Byte), Receiving s (.acknowledgeConsumer target) →
        (16 ≤ target.toNat →
          exec (.acknowledgeConsumer target) s = .next (answered s (.acknowledgeConsumer target) 0x03#8 []))
        ∧ (target.toNat = i.val →
            ((s.stream i).state = .closed →
              exec (.acknowledgeConsumer target) s = .next (answered s (.acknowledgeConsumer target) 0x02#8 []))
            ∧ ((s.stream i).state ≠ .closed → (s.stream i).consumer.phase ≠ .underrun →
              exec (.acknowledgeConsumer target) s = .next (answered s (.acknowledgeConsumer target) 0x09#8 []))
            ∧ ((s.stream i).state ≠ .closed → (s.stream i).consumer.phase = .underrun →
              exec (.acknowledgeConsumer target) s =
                .next { answered s (.acknowledgeConsumer target) 0x01#8 [] with
                  streams := s.streams.set i { s.stream i with underrunAcked := true } })))
  ∧ (∀ (s : State) (target side : Byte) (mosi : Bool), s.porHigh = true → s.csHigh = false → s.spi.phase = .frame →
      s.spi.frame = [0x13#8, target] → s.spi.bitCount = 7 →
      side = BitVec.ofNat 8 (2 * s.spi.shiftIn.toNat + mosi.toNat) → 2 ≤ side.toNat →
      exec (.sckEdge (.rising mosi)) s = .next { s with spi := resultPort s.spi [0x13#8, target, side] 0x03#8 [] })

/-! ## The Notice Queue's commands (R146, R147, R165) -/

/-- R143, R144: a notice offered takes the counter's number, and is appended while the queue holds 0 to 30 records;
at 31 or 32 with a LOST record newest it is counted into that record, saturating at 255; at 31 with another record
newest a LOST record with value1 1 and the notice's number is appended. -/
def Obligations.OfferedNoticeIsPlacedOrCountedAsLost : Prop :=
  ∀ (q : NoticeQueue) (older : List Notice) (n : Notice) (kind : NoticeKind) (subject : Byte) (side : NoticeSide)
    (value1 value2 : Word),
    (q.records.length ≤ 30 →
      q.post kind subject side value1 value2
        = { records := q.records ++
              [{ kind := kind, sequence := q.sequence, subject := subject, side := side, value1 := value1
                 value2 := value2 }]
            sequence := q.sequence + 1#8, mask := q.mask })
    ∧ (31 ≤ q.records.length → q.records = older ++ [n] → n.kind = .lost →
      q.post kind subject side value1 value2
        = { records := older ++ [{ n with value1 := if n.value1 = 255#32 then 255#32 else n.value1 + 1#32 }]
            sequence := q.sequence + 1#8, mask := q.mask })
    ∧ (q.records.length = 31 → q.records = older ++ [n] → n.kind ≠ .lost →
      q.post kind subject side value1 value2
        = { records := q.records ++
              [{ kind := .lost, sequence := q.sequence, subject := 0#8, side := .none, value1 := 1#32
                 value2 := 0#32 }]
            sequence := q.sequence + 1#8, mask := q.mask })

/-- R146, R165: TAKE_NOTICE removes the head record and answers OK with its 12 bytes, whatever the target byte; on
an empty queue it answers EMPTY and nothing changes. R147: SET_ALERT_MASK replaces all sixteen enables and answers
OK, whatever the target byte. -/
def Obligations.TakeNoticeAndSetAlertMaskAnswer : Prop :=
  (∀ (s : State) (target : Byte), Receiving s (.takeNotice target) →
      (s.queue.records = [] → exec (.takeNotice target) s = .next (answered s (.takeNotice target) 0x0A#8 []))
      ∧ ∀ (n : Notice) (rest : List Notice), s.queue.records = n :: rest →
          exec (.takeNotice target) s =
            .next { answered s (.takeNotice target) 0x01#8 n.toBytes with queue := { s.queue with records := rest } }
          ∧ n.toBytes.length = 12
          ∧ fieldAt n.toBytes 0 1 = n.kind.code ∧ fieldAt n.toBytes 1 1 = n.sequence.toNat
          ∧ fieldAt n.toBytes 2 1 = n.subject.toNat
          ∧ fieldAt n.toBytes 3 1 = (match n.side with | .none => 0 | .producer => 1 | .consumer => 2)
          ∧ fieldAt n.toBytes 4 4 = n.value1.toNat ∧ fieldAt n.toBytes 8 4 = n.value2.toNat)
  ∧ (∀ (s : State) (target : Byte) (mask : BitVec 16), Receiving s (.setAlertMask target mask) →
        exec (.setAlertMask target mask) s =
          .next { answered s (.setAlertMask target mask) 0x01#8 [] with queue := { s.queue with mask := mask } })

/-! ## Pace lines (R125 to R133) -/

/-- R126, R128, R129: BIND_PACE answers the first check that applies; where none does, the line is bound to the
side in WATCHING with credit 0, and its entry into WATCHING is tested for both lines of the stream at once: each that is
WATCHING becomes GRANTED if its side is ready for its packet. -/
def Obligations.BindPaceFollowsItsChecks : Prop :=
  ∀ (s : State) (line stream side packet : Byte) (l : LineId) (i : StreamId),
    Receiving s (.bindPace line stream side packet) →
    (8 ≤ line.toNat ∨ 16 ≤ stream.toNat ∨ 2 ≤ side.toNat ∨ packet = 0#8 ∨ 64 < packet.toNat →
      exec (.bindPace line stream side packet) s =
        .next (answered s (.bindPace line stream side packet) 0x03#8 []))
    ∧ (line.toNat = l.val → stream.toNat = i.val → side.toNat < 2 → packet ≠ 0#8 → packet.toNat ≤ 64 →
        ((s.stream i).state ≠ .opened →
          exec (.bindPace line stream side packet) s =
            .next (answered s (.bindPace line stream side packet) 0x02#8 []))
        ∧ ((s.stream i).state = .opened → (s.stream i).desc.depth / 2 < packet.toNat →
          exec (.bindPace line stream side packet) s =
            .next (answered s (.bindPace line stream side packet) 0x03#8 []))
        ∧ ((s.stream i).state = .opened → packet.toNat ≤ (s.stream i).desc.depth / 2 →
            ((s.line l).state ≠ .unbound ∨ ∃ m : LineId, (s.line m).state ≠ .unbound ∧ (s.line m).stream = i
              ∧ (s.line m).side = if side = 0#8 then .producer else .consumer) →
          exec (.bindPace line stream side packet) s =
            .next (answered s (.bindPace line stream side packet) 0x0B#8 []))
        ∧ ((s.stream i).state = .opened → packet.toNat ≤ (s.stream i).desc.depth / 2 → (s.line l).state = .unbound →
            (∀ m : LineId, (s.line m).state ≠ .unbound → (s.line m).stream = i →
              (s.line m).side ≠ if side = 0#8 then .producer else .consumer) →
          exec (.bindPace line stream side packet) s =
            .next { answered s (.bindPace line stream side packet) 0x01#8 [] with
              lines := linesTested
                { s with
                  lines := s.lines.set l
                    { stream := i, side := if side = 0#8 then .producer else .consumer, packet := packet.toNat
                      state := .watching, credit := 0 } }
                i (s.stream i) }))

/-- R127: UNBIND_PACE answers RANGE for a line above 7 and NONE for an UNBOUND line; any other line becomes UNBOUND
with its fields 0. -/
def Obligations.UnbindPaceFreesTheLine : Prop :=
  ∀ (s : State) (line : Byte) (l : LineId), Receiving s (.unbindPace line) →
    (8 ≤ line.toNat → exec (.unbindPace line) s = .next (answered s (.unbindPace line) 0x03#8 []))
    ∧ (line.toNat = l.val → (s.line l).state = .unbound →
        exec (.unbindPace line) s = .next (answered s (.unbindPace line) 0x09#8 []))
    ∧ (line.toNat = l.val → (s.line l).state ≠ .unbound →
        exec (.unbindPace line) s =
          .next { answered s (.unbindPace line) 0x01#8 [] with
            lines := s.lines.set l { state := .unbound, stream := 0, side := .producer, packet := 0, credit := 0 } })

/-- R128, R129, R131: at a commit or a consume of stream `i`, a line of that stream in WATCHING is tested for readiness;
the credit of an IN_PACKET line of that side falls by one, and at 0 the line is tested too; every other line is
unchanged. R129: at the release of the held slot, or the return of a side to FLOWING, each WATCHING line of the stream,
of either side, is tested, and no other line changes. R125: the PACE output of a line is high exactly while the line is
GRANTED. -/
def Obligations.CommitOrConsumeCountsThePacket : Prop :=
  (∀ (s : State) (i : StreamId) (side : Side) (l : LineId) (x : Line), s.line l = x →
    (x.stream ≠ i ∨ x.state = .unbound ∨ x.state = .granted → (s.paceCount i side).line l = x)
    ∧ (x.stream = i → x.state = .inPacket → x.side ≠ side → (s.paceCount i side).line l = x)
    ∧ (x.stream = i → x.state = .watching →
        (s.paceCount i side).line l = { x with state := if LineReady (s.stream i) x then .granted else .watching })
    ∧ (x.stream = i → x.state = .inPacket → x.side = side → 2 ≤ x.credit →
        (s.paceCount i side).line l = { x with credit := x.credit - 1 })
    ∧ (x.stream = i → x.state = .inPacket → x.side = side → x.credit = 1 →
        (s.paceCount i side).line l
          = { x with credit := 0, state := if LineReady (s.stream i) x then .granted else .watching })
    ∧ { s.paceCount i side with lines := s.lines } = s)
  ∧ (∀ (s : State) (i : StreamId) (l : LineId) (x : Line), s.line l = x →
      (x.stream ≠ i ∨ x.state ≠ .watching → (s.paceTest i).line l = x)
      ∧ (x.stream = i → x.state = .watching →
          (s.paceTest i).line l = { x with state := if LineReady (s.stream i) x then .granted else .watching })
      ∧ { s.paceTest i with lines := s.lines } = s)
  ∧ (∀ (s : State) (l : LineId), s.pace l = true ↔ (s.line l).state = .granted)

/-! ## SET_INTEGRITY, SET_TIMEBASE, RESET (R113, R159, R160) -/

/-- R113: SET_INTEGRITY answers BUSY while a stream with spans is not CLOSED, RANGE for a polynomial whose lowest
bit is 0, and otherwise stores both values. R159: SET_TIMEBASE refuses a divider of 0 or above 64 with RANGE;
otherwise the intervals after the one in progress count to the new divider. R160: RESET answers OK and leaves the
soft reset pending; nothing else changes until CSn rises. -/
def Obligations.ConfigurationCommandsFollowTheirChecks : Prop :=
  (∀ (s : State) (target : Byte) (polynomial initial : Word), Receiving s (.setIntegrity target polynomial initial) →
      ((∃ i : StreamId, (s.stream i).state ≠ .closed ∧ (s.stream i).desc.spanLength ≠ 0) →
        exec (.setIntegrity target polynomial initial) s =
          .next (answered s (.setIntegrity target polynomial initial) 0x0C#8 []))
      ∧ ((∀ i : StreamId, (s.stream i).state ≠ .closed → (s.stream i).desc.spanLength = 0) →
          polynomial.toNat % 2 = 0 →
        exec (.setIntegrity target polynomial initial) s =
          .next (answered s (.setIntegrity target polynomial initial) 0x03#8 []))
      ∧ ((∀ i : StreamId, (s.stream i).state ≠ .closed → (s.stream i).desc.spanLength = 0) →
          polynomial.toNat % 2 = 1 →
        exec (.setIntegrity target polynomial initial) s =
          .next { answered s (.setIntegrity target polynomial initial) 0x01#8 [] with
            polynomial := polynomial, initial := initial }))
  ∧ (∀ (s : State) (target divider : Byte), Receiving s (.setTimebase target divider) →
        (divider = 0#8 ∨ 64 < divider.toNat →
          exec (.setTimebase target divider) s = .next (answered s (.setTimebase target divider) 0x03#8 []))
        ∧ (divider ≠ 0#8 → divider.toNat ≤ 64 →
          exec (.setTimebase target divider) s =
            .next { answered s (.setTimebase target divider) 0x01#8 [] with
              timebase := { s.timebase with nextDivider := divider.toNat } }))
  ∧ (∀ (s : State) (target : Byte), Receiving s (.reset target) →
        exec (.reset target) s =
          .next { s with spi := { resultPort s.spi (frameOf (.reset target)) 0x01#8 [] with resetPending := true } })

/-! ## Requests and classification (R21, R28 to R31, R33, R34, R136) -/

/-- R21: a write request is taken by an IDLE port while PORn is high; it is classified with its first data beat,
unless it would pass 0xFFFF_FFFF. A request, write or read, that the port cannot take stays offered: nothing changes (log
entry 2). R28, R29, R30, R33, R136: a read request of an IDLE port is classified at once. A plain or PASS read is one
segment, ready at that instant. A consumer read is taken with no beat handed on: that its beats, the first too, are handed
on by commands of their own is the model's choice (log entry 16). -/
def Obligations.RequestsAreTakenByAnIdlePort : Prop :=
  (∀ (s : State) (p : PortId) (addr : Word) (beats : Nat),
      ((s.port p).txn ≠ none ∨ s.porHigh = false →
        exec (.requestTaken p .write addr beats) s = .next s ∧ exec (.requestTaken p .read addr beats) s = .next s)
      ∧ ((s.port p).txn = none → s.porHigh = true → addr.toNat % 4 = 0 → 1 ≤ beats → beats ≤ 16 → NothingDue s →
          exec (.requestTaken p .write addr beats) s =
            .next { s with
              ports := s.ports.set p
                { txn := some { dir := .write, addr := addr, beats := beats, position := 0, outstanding := 0
                                cls := if addr.toNat + 4 * (beats - 1) < 0x100000000 then none else some .overRange
                                anyError := false, endedWithError := false, hold := none, deferred := false
                                responses := [] }
                  segments := [], newestOpen := false, returned := [], completion := none } }))
  ∧ (∀ (s : State) (p : PortId) (addr : Word) (beats : Nat) (kind : SegmentKind) (b : Binding),
        (s.port p).txn = none → s.porHigh = true → addr.toNat % 4 = 0 → 1 ≤ beats → beats ≤ 16 →
        addr.toNat + 4 * beats ≤ 0x100000000 →
        (s.classify p .read addr beats = .plain ∧ kind = .plain
            ∨ s.classify p .read addr beats = .observerPass b ∧ kind = .pass →
          exec (.requestTaken p .read addr beats) s =
            .next (State.settle (State.arbitrate { s with
              ports := s.ports.set p
                { txn := some { dir := .read, addr := addr, beats := beats, position := beats, outstanding := beats
                                cls := some (s.classify p .read addr beats), anyError := false, endedWithError := false
                                hold := none, deferred := false
                                responses := (List.range beats).map fun k => { beat := k, mark := none, value := none } }
                  segments :=
                    [{ kind := kind, dir := .read, addr := addr, binding := if kind = .pass then some b else none
                       beats := (List.range beats).map fun k =>
                         { beat := k, data := none, frame := 0#32, entry := 0, last := false } }]
                  newestOpen := false, returned := [], completion := none } })))
        ∧ (s.classify p .read addr beats = .consumer b →
          exec (.requestTaken p .read addr beats) s =
            .next (State.settle { s with
              ports := s.ports.set p
                { txn := some { dir := .read, addr := addr, beats := beats, position := 0, outstanding := 0
                                cls := some (.consumer b), anyError := false, endedWithError := false
                                hold := none, deferred := false, responses := [] }
                  segments := [], newestOpen := false, returned := [], completion := none } })))

/-- R21, R23, R31, R34: a straddle, REFUSE or over-range read has every beat answered ERROR with data 0 and the port
is IDLE again; a straddle posts STRADDLE with the port and the address, a REFUSE read posts REFUSED with the stream,
the address and the port, and an over-range read posts nothing. -/
def Obligations.RefusedReadIsAnsweredErrorOnEveryBeat : Prop :=
  ∀ (s : State) (p : PortId) (addr : Word) (beats : Nat) (b : Binding), PortsInForm s →
    (s.port p).txn = none → s.porHigh = true → addr.toNat % 4 = 0 → 1 ≤ beats → beats ≤ 16 →
    (0x100000000 < addr.toNat + 4 * beats →
      exec (.requestTaken p .read addr beats) s =
        .next { s with
          ports := s.ports.set p
            { txn := none, segments := [], newestOpen := false, completion := none
              returned := List.replicate beats { data := 0#32, status := .error } } })
    ∧ (addr.toNat + 4 * beats ≤ 0x100000000 → s.classify p .read addr beats = .straddle →
      exec (.requestTaken p .read addr beats) s =
        .next { s with
          queue := s.queue.post .straddle (BitVec.ofNat 8 p.val) .none addr 0#32
          ports := s.ports.set p
            { txn := none, segments := [], newestOpen := false, completion := none
              returned := List.replicate beats { data := 0#32, status := .error } } })
    ∧ (addr.toNat + 4 * beats ≤ 0x100000000 → s.classify p .read addr beats = .observerRefuse b →
      exec (.requestTaken p .read addr beats) s =
        .next { s with
          queue := s.queue.post .refused (BitVec.ofNat 8 b.stream.val) .none
            (BitVec.ofNat 32 (addr.toNat + p.val)) 0#32
          ports := s.ports.set p
            { txn := none, segments := [], newestOpen := false, completion := none
              returned := List.replicate beats { data := 0#32, status := .error } } })

/-- R29: the class of a transaction, by the tests of R29 on the bytes of its range. -/
def Obligations.ClassFollowsTheTestsOfTheRange : Prop :=
  ∀ (s : State) (p : PortId) (dir : Dir) (addr : Word) (beats last : Nat) (i : StreamId), TableInForm s → 1 ≤ beats →
    last = addr.toNat + 4 * beats - 1 →
    ((∀ a j, addr.toNat ≤ a → a ≤ last → ¬ InWindow s a j) → s.classify p dir addr beats = .plain)
    ∧ ((∃ a j, addr.toNat ≤ a ∧ a ≤ last ∧ InWindow s a j) →
        (∃ a, addr.toNat ≤ a ∧ a ≤ last ∧ ∀ j, ¬ InWindow s a j)
          ∨ (∃ a b j k, addr.toNat ≤ a ∧ a ≤ last ∧ addr.toNat ≤ b ∧ b ≤ last ∧ j ≠ k ∧ InWindow s a j
              ∧ InWindow s b k) →
        s.classify p dir addr beats = .straddle)
    ∧ ((∀ a, addr.toNat ≤ a → a ≤ last → InWindow s a i) →
        s.classify p dir addr beats =
          if dir = .write ∧ p = (s.stream i).desc.producerPort then .producer (s.binding i)
          else if dir = .read ∧ p = (s.stream i).desc.consumerPort then .consumer (s.binding i)
          else if (s.stream i).desc.observerPolicy = .pass then .observerPass (s.binding i)
          else .observerRefuse (s.binding i))

/-- R28, R31, R34, R136: the first data beat of a write classifies it, against the Stream Table as it stands, and is then
taken as a beat of that class. A producer write only takes its class. A straddle posts STRADDLE with the port and the
address, a REFUSE write posts REFUSED with the stream, the address and the port. A plain or PASS write forms one segment
of all its beats, their data still to come, at the tail of the port's list, which takes no further beats; the arbiter
grants it at once where the memory port is FREE. -/
def Obligations.FirstDataBeatClassifiesTheWrite : Prop :=
  ∀ (s : State) (p : PortId) (t : Transaction) (data : Word) (enables : BitVec 4) (b : Binding), WriteBeatDue s p t →
    t.cls = none → t.addr.toNat % 4 = 0 →
    (s.classify p .write t.addr t.beats = .producer b →
      exec (.writeBeat p data enables) s =
        exec (.writeBeat p data enables)
          { s with ports := s.ports.set p { s.port p with txn := some { t with cls := some (.producer b) } } })
    ∧ (s.classify p .write t.addr t.beats = .straddle →
      exec (.writeBeat p data enables) s =
        exec (.writeBeat p data enables)
          { s with
            ports := s.ports.set p { s.port p with txn := some { t with cls := some .straddle } }
            queue := s.queue.post .straddle (BitVec.ofNat 8 p.val) .none t.addr 0#32 })
    ∧ (s.classify p .write t.addr t.beats = .observerRefuse b →
      exec (.writeBeat p data enables) s =
        exec (.writeBeat p data enables)
          { s with
            ports := s.ports.set p { s.port p with txn := some { t with cls := some (.observerRefuse b) } }
            queue := s.queue.post .refused (BitVec.ofNat 8 b.stream.val) .none
              (BitVec.ofNat 32 (t.addr.toNat + p.val)) 0#32 })
    ∧ ∀ kind : SegmentKind,
        s.classify p .write t.addr t.beats = .plain ∧ kind = .plain
          ∨ s.classify p .write t.addr t.beats = .observerPass b ∧ kind = .pass →
      exec (.writeBeat p data enables) s =
        exec (.writeBeat p data enables) (State.arbitrate { s with
          ports := s.ports.set p
            { s.port p with
              txn := some { t with cls := some (s.classify p .write t.addr t.beats) }
              newestOpen := false
              segments := (s.port p).segments ++
                [{ kind := kind, dir := .write, addr := t.addr, binding := if kind = .pass then some b else none
                   beats := (List.range t.beats).map fun k =>
                     { beat := k, data := none, frame := 0#32, entry := 0, last := false } }] } })

/-- R22, R31, R34, R38: a data beat of a straddle, REFUSE or over-range write is discarded, and the completion,
returned once the last beat is accepted, is ERROR. R22, R136: a data beat of a plain or PASS write is forwarded
unchanged, with its byte enables, in the transaction's segment, which waits in the port's list or is on the memory
port already. -/
def Obligations.WriteBeatsOutsideThePathsAreDiscardedOrCarried : Prop :=
  (∀ (s : State) (p : PortId) (t : Transaction) (b : Binding) (data : Word) (enables : BitVec 4), PortsInForm s →
      WriteBeatDue s p t →
      t.cls = some .straddle ∨ t.cls = some (.observerRefuse b) ∨ t.cls = some .overRange →
      exec (.writeBeat p data enables) s =
        .next { s with
          ports := s.ports.set p
            (if t.position + 1 = t.beats ∧ t.outstanding = 0 then
              { s.port p with txn := none, segments := [], newestOpen := false, completion := some .error }
            else { s.port p with txn := some { t with position := t.position + 1, anyError := true } }) })
  ∧ (∀ (s : State) (p : PortId) (t : Transaction) (b : Binding) (data : Word) (enables : BitVec 4), PortsInForm s →
        WriteBeatDue s p t → t.cls = some .plain ∨ t.cls = some (.observerPass b) →
        exec (.writeBeat p data enables) s =
          .next { s with
            ports := s.ports.set p
              { s.port p with
                txn := some { t with position := t.position + 1, outstanding := t.outstanding + 1 }
                segments := (s.port p).segments.map fun g =>
                  { g with beats := g.beats.map fun x =>
                      if x.beat = t.position then { x with data := some (data, enables) } else x } }
            memory := s.memory.map fun g =>
              if g.owner = p then
                { g with segment := { g.segment with beats := g.segment.beats.map fun x =>
                    if x.beat = t.position then { x with data := some (data, enables) } else x } }
              else g })

/-! ## The Producer Path (R40 to R53, R60 to R71, R102) -/

/-- R44, R47, R48, R115, R130: in OPEN, FLOWING, below the frame limit and with free room, a frame start is placed:
a new entry at the next index and slot, its first beat forwarded to that slot, and a GRANTED producer line
IN_PACKET. -/
def Obligations.FrameStartWithRoomIsPlaced : Prop :=
  ∀ (s : State) (p : PortId) (i : StreamId) (t : Transaction) (data : Word) (slot : Nat), ProducerBeatDue s p i t →
    ProducerFrameStart s i t → (s.stream i).state = .opened → (s.stream i).producer.phase = .flowing →
    (s.stream i).atFrameLimit = false → 1 ≤ (s.stream i).freeRoom →
    slot = ((s.stream i).producerCursor + (s.stream i).producer.inFlight.length) % (s.stream i).desc.depth →
    exec (.writeBeat p data 0xF#4) s =
      .next (State.settle (State.arbitrate { s with
        streams := s.streams.set i
          { s.stream i with
            producer := { (s.stream i).producer with
              placement := .inStep
              position := positionAfterStart (s.stream i)
              treatment := if (s.stream i).desc.frameBytes = 4 then .none else .place
              nextEntry := (s.stream i).producer.nextEntry + 1
              inFlight := (s.stream i).producer.inFlight ++
                [{ id := (s.stream i).producer.nextEntry, index := (s.stream i).nextProducerIndex, slot := slot
                   stage := if (s.stream i).desc.frameBytes = 4 then .sealed else .filling, outstanding := 1 }] }
            span := (s.stream i).span.map fun sp =>
              (sp.producerStart).producerBeat s.polynomial s.initial data
                (decide ((s.stream i).desc.frameBytes = 4) && decide ((slot + 1) % (s.stream i).desc.spanLength = 0)) }
        lines := linesStarted s i .producer
        ports := s.ports.set p
          (Port.joinSegment
            { s.port p with txn := some { t with position := t.position + 1, outstanding := t.outstanding + 1 } }
            .producer .write (BitVec.ofNat 32 ((s.stream i).desc.base.toNat + slot * (s.stream i).desc.frameBytes))
            (s.binding i)
            { beat := t.position, data := some (data, 0xF#4), frame := (s.stream i).nextProducerIndex
              entry := (s.stream i).producer.nextEntry, last := decide ((s.stream i).desc.frameBytes = 4) }) }))

/-- R47, R48, R115: a continuation beat of a placed frame is forwarded to the FILLING entry's slot at its offset,
whatever slot the producer's address named; at the last offset the entry is SEALED. R82: a continuation beat of a
REAL frame is forwarded as a read of the READING entry's slot at its offset; at the last offset the entry is SEALED. -/
def Obligations.ContinuationBeatsGoToTheirFramesSlot : Prop :=
  (∀ (s : State) (p : PortId) (i : StreamId) (t : Transaction) (data : Word) (older : List InFlight) (e : InFlight)
      (offset : Nat) (last : Bool), ProducerBeatDue s p i t →
      offset = beatOffset s i t → offset ≠ 0 → (s.stream i).producer.placement = .inStep →
      (s.stream i).producer.position = offset → (s.stream i).producer.treatment = .place →
      (s.stream i).producer.inFlight = older ++ [e] → last = decide (offset + 4 = (s.stream i).desc.frameBytes) →
      exec (.writeBeat p data 0xF#4) s =
        .next (State.settle (State.arbitrate { s with
          streams := s.streams.set i
            { s.stream i with
              producer := { (s.stream i).producer with
                position := if last then 0 else offset + 4
                treatment := if last then .none else .place
                inFlight := older ++
                  [{ e with outstanding := e.outstanding + 1, stage := if last then .sealed else e.stage }] }
              span := (s.stream i).span.map fun sp =>
                sp.producerBeat s.polynomial s.initial data
                  (last && decide ((e.slot + 1) % (s.stream i).desc.spanLength = 0)) }
          ports := s.ports.set p
            (Port.joinSegment
              { s.port p with txn := some { t with position := t.position + 1, outstanding := t.outstanding + 1 } }
              .producer .write
              (BitVec.ofNat 32 ((s.stream i).desc.base.toNat + e.slot * (s.stream i).desc.frameBytes + offset))
              (s.binding i)
              { beat := t.position, data := some (data, 0xF#4), frame := e.index, entry := e.id, last := last }) })))
  ∧ (∀ (s : State) (p : PortId) (i : StreamId) (t : Transaction) (older : List Delivery) (e : Delivery) (offset : Nat)
        (last : Bool), ConsumerBeatDue s p i t → TransactionInForm t → (s.stream i).state ≠ .ended →
        offset = beatOffset s i t → offset ≠ 0 → (s.stream i).consumer.placement = .inStep →
        (s.stream i).consumer.position = offset → (s.stream i).consumer.verdict = .real →
        (s.stream i).consumer.delivery = older ++ [e] → last = decide (offset + 4 = (s.stream i).desc.frameBytes) →
        exec (.readBeat p) s =
          .next (State.settle (State.arbitrate { s with
            streams := s.streams.set i
              { s.stream i with
                consumer := { (s.stream i).consumer with
                  position := if last then 0 else offset + 4
                  verdict := if last then .none else .real
                  delivery := older ++ [{ e with stage := if last then .sealed else e.stage }] } }
            ports := s.ports.set p
              (Port.joinSegment
                { s.port p with
                  txn := some { t with
                    position := t.position + 1, outstanding := t.outstanding + 1
                    responses := t.responses ++
                      [{ beat := t.position, value := none
                         mark := some { entry := e.id, frame := e.index, last := last } }] } }
                .real .read
                (BitVec.ofNat 32 ((s.stream i).desc.base.toNat + e.slot * (s.stream i).desc.frameBytes + offset))
                (s.binding i)
                { beat := t.position, data := none, frame := e.index, entry := e.id, last := last }) })))

/-- R43, R46, R102: a frame start in DRAINING or ENDED, in phase DONE, or at or beyond the frame limit is an excess
frame: absorbed, counted once, and reported by EXCESS where it is the session's first. R63, R70: in OPEN and
OVERRUN, below the frame limit, a frame start that finds less free room than restart_level, or neither the
acknowledged flag nor auto_resume, is absorbed in the condition and counted in the tally and the counter. -/
def Obligations.FramesTakenAsExcessOrInTheOverrunAreAbsorbed : Prop :=
  (∀ (s : State) (p : PortId) (i : StreamId) (t : Transaction) (data : Word), ProducerBeatDue s p i t →
      ProducerFrameStart s i t →
      (s.stream i).state ≠ .opened ∨ (s.stream i).producer.phase = .done ∨ (s.stream i).atFrameLimit = true →
      exec (.writeBeat p data 0xF#4) s =
        .next (State.settle { s with
          streams := s.streams.set i
            { s.stream i with
              producer := frameAbsorbed (s.stream i)
              counters := { (s.stream i).counters with excess := counterUp (s.stream i).counters.excess } }
          queue := if (s.stream i).counters.excess = 0#16 then
              s.queue.post .excess (streamSubject i) .producer (s.stream i).committed 0#32
            else s.queue
          ports := s.ports.set p (portAbsorbed s p t) }))
  ∧ (∀ (s : State) (p : PortId) (i : StreamId) (t : Transaction) (data : Word), ProducerBeatDue s p i t →
        ProducerFrameStart s i t → (s.stream i).state = .opened → (s.stream i).producer.phase = .overrun →
        (s.stream i).atFrameLimit = false →
        (s.stream i).freeRoom < (s.stream i).desc.restartLevel
          ∨ ((s.stream i).overrunAcked = false ∧ (s.stream i).desc.autoResume = false) →
        exec (.writeBeat p data 0xF#4) s =
          .next (State.settle { s with
            streams := s.streams.set i
              { s.stream i with
                producer := { frameAbsorbed (s.stream i) with tally := tallyUp (s.stream i).producer.tally }
                counters := { (s.stream i).counters with absorbed := counterUp (s.stream i).counters.absorbed } }
            ports := s.ports.set p (portAbsorbed s p t) }))

/-- R62, R64, R132: in OPEN, FLOWING and below the frame limit, a frame start that finds no free room begins the
overrun condition under ABSORB, with OVERRUN posted and the frame counted; under STALL it is held with the stream's
stall_limit. Either drops the producer's line; R129: a drop is tested for both lines of the stream. -/
def Obligations.FrameStartWithoutRoomFollowsTheFullPolicy : Prop :=
  ∀ (s : State) (p : PortId) (i : StreamId) (t : Transaction) (data : Word), ProducerBeatDue s p i t →
    ProducerFrameStart s i t → (s.stream i).state = .opened → (s.stream i).producer.phase = .flowing →
    (s.stream i).atFrameLimit = false → (s.stream i).freeRoom = 0 →
    (∀ st : Stream, (s.stream i).desc.fullPolicy = .absorb →
      st = { s.stream i with
        overrunAcked := false
        producer := { frameAbsorbed (s.stream i) with phase := .overrun, tally := 1#32 }
        counters := { (s.stream i).counters with absorbed := counterUp (s.stream i).counters.absorbed } } →
      exec (.writeBeat p data 0xF#4) s =
        .next (State.settle { s with
          streams := s.streams.set i st
          queue := s.queue.post .overrun (streamSubject i) .producer (s.stream i).committed 0#32
          lines := linesDropped s i .producer st
          ports := s.ports.set p (portAbsorbed s p t) }))
    ∧ (∀ st : Stream, (s.stream i).desc.fullPolicy = .stall →
      st = { s.stream i with producer := { (s.stream i).producer with placement := .inStep, phase := .held } } →
      exec (.writeBeat p data 0xF#4) s =
        .next (State.settle { s with
          streams := s.streams.set i st
          lines := linesDropped s i .producer st
          ports := s.ports.set p
            { s.port p with
              txn := some { t with
                position := t.position + 1
                hold := some { limit := (s.stream i).desc.stallLimit, count := 0, data := data } }
              newestOpen := false } }))

/-- R70, R71, R44: with enough free room and consent the frame start resumes the condition: FLOWING, RESUMED posted
with the tally, and the frame placed as FrameStartWithRoomIsPlaced gives. Both lines are tested before the frame takes
its slot, in the order of R71's steps, so a producer line that is ready begins its packet with this frame (log entry 15).
R65, R129, R130: a room event of an OPEN stream whose producer is HELD releases the held write: FLOWING, the hold ended,
and its frame placed at the next index. The lines are tested against the free room after the placed frame, which then
begins the packet of a producer line so granted (log entry 15). Any other room event changes nothing. -/
def Obligations.OverrunResumesWithRoomAndConsent : Prop :=
  (∀ (s : State) (p : PortId) (i : StreamId) (t : Transaction) (data : Word) (slot : Nat), ProducerBeatDue s p i t →
    ProducerFrameStart s i t → (s.stream i).state = .opened → (s.stream i).producer.phase = .overrun →
    (s.stream i).atFrameLimit = false → (s.stream i).desc.restartLevel ≤ (s.stream i).freeRoom →
    (s.stream i).overrunAcked = true ∨ (s.stream i).desc.autoResume = true →
    slot = ((s.stream i).producerCursor + (s.stream i).producer.inFlight.length) % (s.stream i).desc.depth →
    exec (.writeBeat p data 0xF#4) s =
      .next (State.settle (State.arbitrate { s with
        streams := s.streams.set i
          { s.stream i with
            producer := { (s.stream i).producer with
              phase := .flowing
              placement := .inStep
              position := positionAfterStart (s.stream i)
              treatment := if (s.stream i).desc.frameBytes = 4 then .none else .place
              nextEntry := (s.stream i).producer.nextEntry + 1
              inFlight := (s.stream i).producer.inFlight ++
                [{ id := (s.stream i).producer.nextEntry, index := (s.stream i).nextProducerIndex, slot := slot
                   stage := if (s.stream i).desc.frameBytes = 4 then .sealed else .filling, outstanding := 1 }] }
            span := (s.stream i).span.map fun sp =>
              (sp.producerStart).producerBeat s.polynomial s.initial data
                (decide ((s.stream i).desc.frameBytes = 4) && decide ((slot + 1) % (s.stream i).desc.spanLength = 0)) }
        queue := s.queue.post .resumed (streamSubject i) .producer (s.stream i).producer.tally 0#32
        lines := linesResumed s i .producer
            { s.stream i with producer := { (s.stream i).producer with phase := .flowing } }
        ports := s.ports.set p
          (Port.joinSegment
            { s.port p with txn := some { t with position := t.position + 1, outstanding := t.outstanding + 1 } }
            .producer .write (BitVec.ofNat 32 ((s.stream i).desc.base.toNat + slot * (s.stream i).desc.frameBytes))
            (s.binding i)
            { beat := t.position, data := some (data, 0xF#4), frame := (s.stream i).nextProducerIndex
              entry := (s.stream i).producer.nextEntry, last := decide ((s.stream i).desc.frameBytes = 4) }) })))
  ∧ (∀ (s : State) (i : StreamId),
      ((s.stream i).state ≠ .opened ∨ (s.stream i).producer.phase ≠ .held → s.roomEvent i = s)
      ∧ ∀ (p : PortId) (t : Transaction) (h : Hold) (slot : Nat) (st : Stream),
          (s.stream i).state = .opened → (s.stream i).producer.phase = .held → p = (s.stream i).desc.producerPort →
          (s.port p).txn = some t → t.cls = some (.producer (s.binding i)) → t.hold = some h →
          slot = ((s.stream i).producerCursor + (s.stream i).producer.inFlight.length) % (s.stream i).desc.depth →
          st = { s.stream i with
            producer := { (s.stream i).producer with
              phase := .flowing
              position := positionAfterStart (s.stream i)
              treatment := if (s.stream i).desc.frameBytes = 4 then .none else .place
              nextEntry := (s.stream i).producer.nextEntry + 1
              inFlight := (s.stream i).producer.inFlight ++
                [{ id := (s.stream i).producer.nextEntry, index := (s.stream i).nextProducerIndex, slot := slot
                   stage := if (s.stream i).desc.frameBytes = 4 then .sealed else .filling, outstanding := 1 }] }
            span := (s.stream i).span.map fun sp =>
              (sp.producerStart).producerBeat s.polynomial s.initial h.data
                (decide ((s.stream i).desc.frameBytes = 4)
                  && decide ((slot + 1) % (s.stream i).desc.spanLength = 0)) } →
          s.roomEvent i =
            State.arbitrate { s with
              streams := s.streams.set i st
              lines := linesResumed s i .producer st
              ports := s.ports.set p
                (Port.joinSegment
                  { s.port p with txn := some { t with hold := none, outstanding := t.outstanding + 1 } }
                  .producer .write
                  (BitVec.ofNat 32 ((s.stream i).desc.base.toNat + slot * (s.stream i).desc.frameBytes)) (s.binding i)
                  { beat := t.position - 1, data := some (h.data, 0xF#4), frame := (s.stream i).nextProducerIndex
                    entry := (s.stream i).producer.nextEntry
                    last := decide ((s.stream i).desc.frameBytes = 4) }) })

/-- R41, R52, R108: a partial beat, or a full beat at an offset that is neither 0 nor the expected one, loses
placement: a placed frame in progress is abandoned, PLACE is posted with its reason and counted, and the beat is
absorbed. In DRAINING an abandonment is followed by the drain test (log entry 9). R42: a full beat at offset 0
inside a frame abandons a placed frame, posts PLACE early, and is then taken as a frame start: in OPEN its effect is
that of the same beat in the state the abandonment has left, between frames. R42, R107: in DRAINING or ENDED that frame
start is an excess frame, and the drain test comes last. R43, R46: while placement is LOST every beat but a full beat at
offset 0 is absorbed, with no notice and no count; and so is a continuation beat of an absorbed frame, whose position
goes on. -/
def Obligations.BeatsOutOfPlaceOnTheProducerPath : Prop :=
  (∀ (s a u : State) (p : PortId) (i : StreamId) (t : Transaction) (data : Word) (enables : BitVec 4) (reason : Word),
      ProducerBeatDue s p i t → (s.stream i).producer.placement = .inStep →
      (enables ≠ 0xF#4 ∧ reason = 3#32)
        ∨ (enables = 0xF#4 ∧ beatOffset s i t ≠ 0 ∧ beatOffset s i t ≠ (s.stream i).producer.position ∧ reason = 2#32) →
      a = (if (s.stream i).producer.treatment = .place then
          State.abandonProducer
            { s with ports := s.ports.set p { s.port p with txn := some { t with position := t.position + 1 } } }
            i p ((s.stream i).producer.inFlight.length - 1)
        else { s with ports := s.ports.set p { s.port p with txn := some { t with position := t.position + 1 } } }) →
      u = { a with
        streams := a.streams.set i
          { a.stream i with
            producer := { (a.stream i).producer with placement := .lost, position := 0, treatment := .none }
            counters := { (a.stream i).counters with
              producerLosses := counterUp (a.stream i).counters.producerLosses } }
        queue := s.queue.post .place (streamSubject i) .producer reason 0#32
        ports := a.ports.set p { a.port p with newestOpen := false } } →
      exec (.writeBeat p data enables) s =
        .next (State.settle (if (s.stream i).producer.treatment = .place then u.drainTest i else u)))
  ∧ (∀ (s a : State) (p : PortId) (i : StreamId) (t : Transaction) (data : Word), ProducerBeatDue s p i t →
        (s.stream i).state = .opened → (s.stream i).producer.placement = .inStep → beatOffset s i t = 0 →
        (s.stream i).producer.position ≠ 0 →
        a = (if (s.stream i).producer.treatment = .place then
            State.abandonProducer s i p ((s.stream i).producer.inFlight.length - 1) else s) →
        exec (.writeBeat p data 0xF#4) s =
          exec (.writeBeat p data 0xF#4)
            { a with
              streams := a.streams.set i
                { a.stream i with
                  producer := { (a.stream i).producer with position := 0, treatment := .none }
                  counters := { (a.stream i).counters with
                    producerLosses := counterUp (a.stream i).counters.producerLosses } }
              queue := s.queue.post .place (streamSubject i) .producer 1#32 0#32 })
  ∧ (∀ (s a u : State) (p : PortId) (i : StreamId) (t : Transaction) (data : Word), ProducerBeatDue s p i t →
        (s.stream i).state ≠ .opened → (s.stream i).producer.placement = .inStep → beatOffset s i t = 0 →
        (s.stream i).producer.position ≠ 0 →
        a = (if (s.stream i).producer.treatment = .place then
            State.abandonProducer
              { s with ports := s.ports.set p { s.port p with txn := some { t with position := t.position + 1 } } }
              i p ((s.stream i).producer.inFlight.length - 1)
          else { s with ports := s.ports.set p { s.port p with txn := some { t with position := t.position + 1 } } }) →
        u = { a with
          streams := a.streams.set i
            { a.stream i with
              producer := frameAbsorbed (a.stream i)
              counters := { (s.stream i).counters with
                producerLosses := counterUp (s.stream i).counters.producerLosses
                excess := counterUp (s.stream i).counters.excess } }
          queue :=
            if (s.stream i).counters.excess = 0#16 then
              (s.queue.post .place (streamSubject i) .producer 1#32 0#32).post .excess (streamSubject i) .producer
                (s.stream i).committed 0#32
            else s.queue.post .place (streamSubject i) .producer 1#32 0#32
          ports := a.ports.set p { a.port p with newestOpen := false } } →
        exec (.writeBeat p data 0xF#4) s =
          .next (State.settle (if (s.stream i).producer.treatment = .place then u.drainTest i else u)))
  ∧ (∀ (s : State) (p : PortId) (i : StreamId) (t : Transaction) (data : Word) (enables : BitVec 4),
        ProducerBeatDue s p i t →
        ((s.stream i).producer.placement = .lost → enables ≠ 0xF#4 ∨ beatOffset s i t ≠ 0 →
          exec (.writeBeat p data enables) s =
            .next (State.settle { s with ports := s.ports.set p (portAbsorbed s p t) }))
        ∧ ((s.stream i).producer.placement = .inStep → enables = 0xF#4 → (s.stream i).producer.treatment = .absorb →
            beatOffset s i t ≠ 0 → (s.stream i).producer.position = beatOffset s i t →
          exec (.writeBeat p data enables) s =
            .next (State.settle { s with
              ports := s.ports.set p (portAbsorbed s p t)
              streams := s.streams.set i
                { s.stream i with
                  producer := { (s.stream i).producer with
                    position := if beatOffset s i t + 4 = (s.stream i).desc.frameBytes then 0 else beatOffset s i t + 4
                    treatment := if beatOffset s i t + 4 = (s.stream i).desc.frameBytes then .none else .absorb } } })))

/-- R52, R116, R137: abandoning the frames from the `keep`-th on removes their entries, restores the producer
accumulator to the first one's checkpoint and drops their frame records. Where one of them is FILLING, the current frame
is at an end: position 0, treatment NONE. Of the beats waiting in the port's segments, those forwarded for the abandoned
entries of this session are withdrawn, each counted as done; the other beats stay as they are and in their order, a
segment left with no beat goes, and where beats were withdrawn the newest segment takes no more. P, the cursors, the
phase, the placement, the consumer side, the counters, the other streams and ports, the notices, the lines and the memory
port stay as they are. -/
def Obligations.AbandonmentReturnsToTheFirstAbandonedFrame : Prop :=
  ∀ (s : State) (i : StreamId) (p : PortId) (keep : Nat) (gone : List InFlight),
    keep < (s.stream i).producer.inFlight.length → gone = (s.stream i).producer.inFlight.drop keep →
    ((s.abandonProducer i p keep).stream i).producer =
      { (s.stream i).producer with
        inFlight := (s.stream i).producer.inFlight.take keep
        position := if ∃ e ∈ gone, e.stage = .filling then 0 else (s.stream i).producer.position
        treatment := if ∃ e ∈ gone, e.stage = .filling then .none else (s.stream i).producer.treatment }
    ∧ (∀ (sp : SpanState) (older : List ProducerRecord) (r : ProducerRecord) (newer : List ProducerRecord),
        (s.stream i).span = some sp → sp.producerRecords = older ++ r :: newer → older.length = keep →
        ((s.abandonProducer i p keep).stream i).span
          = some { sp with producerAcc := r.checkpoint, producerRecords := older })
    ∧ (∀ removed : Nat,
        removed = ((s.port p).segments.map fun g => (g.beats.filter fun x => ForwardedFor s i gone g x).length).sum →
        (s.abandonProducer i p keep).port p =
          { s.port p with
            segments :=
              ((s.port p).segments.map fun g =>
                { g with beats := g.beats.filter fun x => ¬ ForwardedFor s i gone g x }).filter fun g => g.beats ≠ []
            newestOpen := (s.port p).newestOpen && decide (removed = 0)
            txn := (s.port p).txn.map fun t => { t with outstanding := t.outstanding - removed } })
    ∧ (∀ g ∈ ((s.abandonProducer i p keep).port p).segments, g.beats ≠ [] ∧
        (g.kind = .producer → g.binding = some (s.binding i) →
          ∀ x ∈ g.beats, ∀ e ∈ gone, x.entry ≠ e.id))
    ∧ { (s.abandonProducer i p keep).stream i with producer := (s.stream i).producer, span := (s.stream i).span }
        = s.stream i
    ∧ (∀ j : StreamId, j ≠ i → (s.abandonProducer i p keep).stream j = s.stream j)
    ∧ (∀ q : PortId, q ≠ p → (s.abandonProducer i p keep).port q = s.port q)
    ∧ { s.abandonProducer i p keep with streams := s.streams, ports := s.ports } = s

/-- R51: in a ring in form, the slot of the next frame placed, where free room is at least 1, is the slot of no
committed frame not yet consumed, of no frame in flight, and not the held slot. -/
def Obligations.PlacedFrameNeverOverwritesAFrame : Prop :=
  ∀ st : Stream, RingInForm st → 1 ≤ st.freeRoom →
    (∀ k, k < st.occupancy → (st.consumerCursor + k) % st.desc.depth ≠ st.newInFlight.slot)
    ∧ (∀ e ∈ st.producer.inFlight, e.slot ≠ st.newInFlight.slot)
    ∧ (∀ h ∈ st.consumer.heldSlot, h ≠ st.newInFlight.slot)
    ∧ st.newInFlight.slot < st.desc.depth

/-! ## Holds and the microsecond tick (R26, R66, R86, R89, R159) -/

/-- R66, R132: the expiry of a held producer write begins the overrun condition: OVERRUN is posted with P, the held
beat's frame is absorbed and counted, the port is ACTIVE again, and the producer's line drops; R129: a drop is tested for
both lines of the stream. R86, R87, R89, R132:
the expiry of a held consumer read begins the underrun condition, and the held beat is the first beat of its first
fill frame. An expiry of a port that is not HELD, or whose timer has not reached its limit, does not occur (R26,
R27; log entry 2). -/
def Obligations.HoldTimerExpiryBeginsTheCondition : Prop :=
  (∀ (s : State) (p : PortId) (i : StreamId) (t : Transaction) (h : Hold) (st : Stream), (s.port p).txn = some t →
      t.hold = some h → h.limit ≤ h.count → t.cls = some (.producer (s.binding i)) → (s.stream i).state ≠ .closed →
      st = { s.stream i with
        overrunAcked := false
        producer := { (s.stream i).producer with
          phase := .overrun, tally := 1#32
          position := positionAfterStart (s.stream i)
          treatment := if (s.stream i).desc.frameBytes = 4 then .none else .absorb }
        counters := { (s.stream i).counters with absorbed := counterUp (s.stream i).counters.absorbed } } →
      exec (.holdTimerExpiry p) s =
        .next (State.settle { s with
          streams := s.streams.set i st
          queue := s.queue.post .overrun (streamSubject i) .producer (s.stream i).committed 0#32
          lines := linesDropped s i .producer st
          ports := s.ports.set p { s.port p with txn := some { t with hold := none }, newestOpen := false } }))
  ∧ (∀ (s : State) (p : PortId) (i : StreamId) (t : Transaction), (s.port p).txn = some t →
        (∀ (h : Hold) (st : Stream), t.hold = some h → h.limit ≤ h.count → t.cls = some (.consumer (s.binding i)) →
          (s.stream i).state ≠ .closed →
          st = { s.stream i with
            underrunAcked := false
            consumer := { (s.stream i).consumer with
              phase := .underrun, tally := 0#32
              heldSlot :=
                if (s.stream i).desc.fillMode = .hold ∧ (s.stream i).consumer.deliveredOnce = true
                    ∧ (s.stream i).producer.inFlight.length < (s.stream i).desc.depth then
                  some (((s.stream i).consumerCursor + (s.stream i).desc.depth - 1) % (s.stream i).desc.depth)
                else none
              holdSource :=
                if (s.stream i).desc.fillMode = .hold ∧ (s.stream i).consumer.deliveredOnce = true
                    ∧ (s.stream i).producer.inFlight.length < (s.stream i).desc.depth then .slot
                else .word } } →
          exec (.holdTimerExpiry p) s =
            .next (State.settle (State.fillFrame { s with
              streams := s.streams.set i st
              queue := s.queue.post .underrun (streamSubject i) .consumer (s.stream i).consumed 0#32
              lines := linesDropped s i .consumer st
              ports := s.ports.set p { s.port p with txn := some { t with hold := none } } } i p (t.position - 1))))
        ∧ (t.hold = none ∨ (∃ h, t.hold = some h ∧ h.count < h.limit) → exec (.holdTimerExpiry p) s = .next s))

/-! ## The Consumer Path (R76 to R96) -/

/-- R82, R114, R118, R130: in phase FLOWING with an available count of at least 1, a frame start is REAL: a new
entry at the next index and slot, its first beat forwarded as a read of that slot, a checkpoint opened, and a
GRANTED consumer line IN_PACKET. -/
def Obligations.FrameStartWithAFrameAvailableIsReal : Prop :=
  ∀ (s : State) (p : PortId) (i : StreamId) (t : Transaction) (slot : Nat), ConsumerBeatDue s p i t →
    TransactionInForm t → ConsumerFrameStart s i t → (s.stream i).state ≠ .ended →
    (s.stream i).consumer.phase = .flowing → 1 ≤ (s.stream i).available →
    slot = ((s.stream i).consumerCursor + (s.stream i).consumer.delivery.length) % (s.stream i).desc.depth →
    exec (.readBeat p) s =
      .next (State.settle (State.arbitrate { s with
        streams := s.streams.set i
          { s.stream i with
            consumer := { (s.stream i).consumer with
              placement := .inStep
              position := positionAfterStart (s.stream i)
              verdict := if (s.stream i).desc.frameBytes = 4 then .none else .real
              nextEntry := (s.stream i).consumer.nextEntry + 1
              delivery := (s.stream i).consumer.delivery ++
                [{ id := (s.stream i).consumer.nextEntry, index := (s.stream i).nextConsumerIndex, slot := slot
                   stage := if (s.stream i).desc.frameBytes = 4 then .sealed else .reading, faulted := false }] }
            span := (s.stream i).span.map fun sp => { sp with consumerRecord := some .unset } }
        lines := linesStarted s i .consumer
        ports := s.ports.set p
          (Port.joinSegment
            { s.port p with
              txn := some { t with
                position := t.position + 1, outstanding := t.outstanding + 1
                responses := t.responses ++
                  [{ beat := t.position, value := none
                     mark := some { entry := (s.stream i).consumer.nextEntry, frame := (s.stream i).nextConsumerIndex
                                    last := decide ((s.stream i).desc.frameBytes = 4) } }] } }
            .real .read (BitVec.ofNat 32 ((s.stream i).desc.base.toNat + slot * (s.stream i).desc.frameBytes))
            (s.binding i)
            { beat := t.position, data := none, frame := (s.stream i).nextConsumerIndex
              entry := (s.stream i).consumer.nextEntry, last := decide ((s.stream i).desc.frameBytes = 4) }) }))

/-- R80, R81, R86, R87, R88, R132: a frame start in phase FLOWING that finds nothing available is deferred while the
consumer's own frames are being delivered; with none, FILL begins the underrun condition with UNDERRUN posted and
the frame a fill frame, and WAIT holds the beat with the stream's wait_limit. A condition or a hold drops the
consumer's line; R129: a drop is tested for both lines of the stream. -/
def Obligations.FrameStartWithNothingAvailableFollowsTheEmptyPolicy : Prop :=
  ∀ (s : State) (p : PortId) (i : StreamId) (t : Transaction), ConsumerBeatDue s p i t → ConsumerFrameStart s i t →
    (s.stream i).state ≠ .ended → (s.stream i).consumer.phase = .flowing → (s.stream i).available = 0 →
    ((s.stream i).consumer.delivery ≠ [] →
      exec (.readBeat p) s =
        .next (State.settle { s with
          streams := s.streams.set i { s.stream i with consumer := consumerInStep (s.stream i) }
          ports := s.ports.set p { s.port p with txn := some { readHanded t with deferred := true } } }))
    ∧ (∀ st : Stream, (s.stream i).consumer.delivery = [] → (s.stream i).desc.emptyPolicy = .wait →
      st = { s.stream i with consumer := { consumerInStep (s.stream i) with phase := .waiting } } →
      exec (.readBeat p) s =
        .next (State.settle { s with
          streams := s.streams.set i st
          lines := linesDropped s i .consumer st
          ports := s.ports.set p
            { s.port p with
              txn := some { readHanded t with
                hold := some { limit := (s.stream i).desc.waitLimit, count := 0, data := 0#32 } }
              newestOpen := false } }))
    ∧ (∀ st : Stream, (s.stream i).consumer.delivery = [] → (s.stream i).desc.emptyPolicy = .fill →
      st = { s.stream i with
        underrunAcked := false
        consumer := { consumerInStep (s.stream i) with
          phase := .underrun, tally := 0#32
          heldSlot :=
            if (s.stream i).desc.fillMode = .hold ∧ (s.stream i).consumer.deliveredOnce = true
                ∧ (s.stream i).producer.inFlight.length < (s.stream i).desc.depth then
              some (((s.stream i).consumerCursor + (s.stream i).desc.depth - 1) % (s.stream i).desc.depth)
            else none
          holdSource :=
            if (s.stream i).desc.fillMode = .hold ∧ (s.stream i).consumer.deliveredOnce = true
                ∧ (s.stream i).producer.inFlight.length < (s.stream i).desc.depth then .slot
            else .word } } →
      exec (.readBeat p) s =
        .next (State.settle (State.fillFrame { s with
          streams := s.streams.set i st
          queue := s.queue.post .underrun (streamSubject i) .consumer (s.stream i).consumed 0#32
          lines := linesDropped s i .consumer st
          ports := s.ports.set p { s.port p with txn := some (readHanded t) } } i p t.position)))

/-- R90, R93: in UNDERRUN a frame start that does not find enough committed frames, or no consent, is a fill frame.
In DRAINING only an occupancy of 0 makes it one. -/
def Obligations.UnderrunGoesOnWithoutFramesOrConsent : Prop :=
  ∀ (s : State) (p : PortId) (i : StreamId) (t : Transaction), ConsumerBeatDue s p i t → ConsumerFrameStart s i t →
    (s.stream i).state ≠ .ended → (s.stream i).consumer.phase = .underrun →
    ((s.stream i).state = .draining ∧ (s.stream i).occupancy = 0)
      ∨ ((s.stream i).state = .opened ∧
        ((s.stream i).occupancy < (s.stream i).desc.restartLevel
            ∧ ((s.stream i).producer.phase ≠ .done ∨ (s.stream i).occupancy = 0)
          ∨ (s.stream i).underrunAcked = false ∧ (s.stream i).desc.autoResume = false)) →
    exec (.readBeat p) s =
      .next (State.settle (State.fillFrame { s with
        streams := s.streams.set i { s.stream i with consumer := consumerInStep (s.stream i) }
        ports := s.ports.set p { s.port p with txn := some (readHanded t) } } i p t.position))

/-- R93, R94, R129: in UNDERRUN, with no slot held, a frame start that finds the frames and the consent resumes: FLOWING,
RESUMED posted with the tally, and the frame REAL. Both lines are tested at the return to FLOWING, and a consumer line
that is ready begins its packet with this frame (log entry 15). R94 step 1, R65: where a slot is held, it is released
first, with hold source WORD, as a room event of the producer and a test of both lines; the beat then has the effect it
has in the state so left. -/
def Obligations.UnderrunResumesWithFramesAndConsent : Prop :=
  ∀ (s : State) (p : PortId) (i : StreamId) (t : Transaction), ConsumerBeatDue s p i t →
    TransactionInForm t → ConsumerFrameStart s i t → (s.stream i).consumer.phase = .underrun →
    ((s.stream i).state = .draining ∧ 1 ≤ (s.stream i).occupancy)
      ∨ ((s.stream i).state = .opened
        ∧ ((s.stream i).desc.restartLevel ≤ (s.stream i).occupancy
          ∨ (s.stream i).producer.phase = .done ∧ 1 ≤ (s.stream i).occupancy)
        ∧ ((s.stream i).underrunAcked = true ∨ (s.stream i).desc.autoResume = true)) →
    (∀ slot : Nat, (s.stream i).consumer.heldSlot = none →
      slot = ((s.stream i).consumerCursor + (s.stream i).consumer.delivery.length) % (s.stream i).desc.depth →
      exec (.readBeat p) s =
        .next (State.settle (State.arbitrate { s with
          streams := s.streams.set i
            { s.stream i with
              consumer := { (s.stream i).consumer with
                phase := .flowing
                placement := .inStep
                holdSource := .word
                position := positionAfterStart (s.stream i)
                verdict := if (s.stream i).desc.frameBytes = 4 then .none else .real
                nextEntry := (s.stream i).consumer.nextEntry + 1
                delivery := (s.stream i).consumer.delivery ++
                  [{ id := (s.stream i).consumer.nextEntry, index := (s.stream i).nextConsumerIndex, slot := slot
                     stage := if (s.stream i).desc.frameBytes = 4 then .sealed else .reading, faulted := false }] }
              span := (s.stream i).span.map fun sp => { sp with consumerRecord := some .unset } }
          queue := s.queue.post .resumed (streamSubject i) .consumer (s.stream i).consumer.tally 0#32
          lines := linesResumed s i .consumer
            { s.stream i with consumer := { (s.stream i).consumer with phase := .flowing } }
          ports := s.ports.set p
            (Port.joinSegment
              { s.port p with
                txn := some { t with
                  position := t.position + 1, outstanding := t.outstanding + 1
                  responses := t.responses ++
                    [{ beat := t.position, value := none
                       mark := some { entry := (s.stream i).consumer.nextEntry, frame := (s.stream i).nextConsumerIndex
                                      last := decide ((s.stream i).desc.frameBytes = 4) } }] } }
              .real .read (BitVec.ofNat 32 ((s.stream i).desc.base.toNat + slot * (s.stream i).desc.frameBytes))
              (s.binding i)
              { beat := t.position, data := none, frame := (s.stream i).nextConsumerIndex
                entry := (s.stream i).consumer.nextEntry, last := decide ((s.stream i).desc.frameBytes = 4) }) })))
    ∧ ((s.stream i).consumer.heldSlot ≠ none →
      exec (.readBeat p) s =
        exec (.readBeat p)
          (State.paceTest
            (State.roomEvent
              { s with
                streams := s.streams.set i
                  { s.stream i with
                    consumer := { (s.stream i).consumer with heldSlot := none, holdSource := .word } } } i) i))

/-- R90, R91, R92: a fill frame raises the tally and the filled counter by one, and its first beat is answered by
the fill mode: 0 under ZERO, fill_word under CONSTANT and under HOLD with source WORD, and a HOLD read of the held
slot, with the index C − 1, under HOLD with source SLOT. R77, R91, R92: a continuation beat of a fill frame is answered
in the same way, a HOLD read going to its own offset of the held slot; it is not counted again. -/
def Obligations.FillFrameIsAnsweredByTheFillMode : Prop :=
  (∀ (s : State) (i : StreamId) (p : PortId) (k : Nat) (t : Transaction) (st : Stream), (s.port p).txn = some t →
    st = { s.stream i with
      consumer := { (s.stream i).consumer with
        tally := tallyUp (s.stream i).consumer.tally
        position := positionAfterStart (s.stream i)
        verdict := if (s.stream i).desc.frameBytes = 4 then .none else .fill }
      counters := { (s.stream i).counters with filled := counterUp (s.stream i).counters.filled } } →
    ((s.stream i).desc.fillMode = .zero →
      s.fillFrame i p k =
        { s with
          streams := s.streams.set i st
          ports := s.ports.set p
            { s.port p with
              newestOpen := false
              txn := some { t with responses := t.responses.map fun x =>
                if x.beat = k then { x with value := some { data := 0#32, status := .okay } } else x } } })
    ∧ ((s.stream i).desc.fillMode = .constant
        ∨ (s.stream i).desc.fillMode = .hold ∧ (s.stream i).consumer.holdSource = .word →
      s.fillFrame i p k =
        { s with
          streams := s.streams.set i st
          ports := s.ports.set p
            { s.port p with
              newestOpen := false
              txn := some { t with responses := t.responses.map fun x =>
                if x.beat = k then { x with value := some { data := (s.stream i).desc.fillWord, status := .okay } }
                else x } } })
    ∧ ∀ slot : Nat, (s.stream i).desc.fillMode = .hold → (s.stream i).consumer.holdSource = .slot →
        (s.stream i).consumer.heldSlot = some slot →
      s.fillFrame i p k =
        State.arbitrate { s with
          streams := s.streams.set i st
          ports := s.ports.set p
            (Port.joinSegment { s.port p with txn := some { t with outstanding := t.outstanding + 1 } } .hold .read
              (BitVec.ofNat 32 ((s.stream i).desc.base.toNat + slot * (s.stream i).desc.frameBytes)) (s.binding i)
              { beat := k, data := none, frame := (s.stream i).consumed - 1#32, entry := 0, last := false }) })
  ∧ (∀ (s : State) (p : PortId) (i : StreamId) (t : Transaction) (offset : Nat) (st : Stream), ConsumerBeatDue s p i t →
      TransactionInForm t → (s.stream i).state ≠ .ended → offset = beatOffset s i t → offset ≠ 0 →
      (s.stream i).consumer.placement = .inStep → (s.stream i).consumer.position = offset →
      (s.stream i).consumer.verdict = .fill →
      st = { s.stream i with
        consumer := { (s.stream i).consumer with
          position := if offset + 4 = (s.stream i).desc.frameBytes then 0 else offset + 4
          verdict := if offset + 4 = (s.stream i).desc.frameBytes then .none else .fill } } →
      ((s.stream i).desc.fillMode = .zero →
        exec (.readBeat p) s =
          .next (State.settle { s with
            streams := s.streams.set i st
            ports := s.ports.set p (portAnswered s p t { data := 0#32, status := .okay }) }))
      ∧ ((s.stream i).desc.fillMode = .constant
          ∨ (s.stream i).desc.fillMode = .hold ∧ (s.stream i).consumer.holdSource = .word →
        exec (.readBeat p) s =
          .next (State.settle { s with
            streams := s.streams.set i st
            ports := s.ports.set p (portAnswered s p t { data := (s.stream i).desc.fillWord, status := .okay }) }))
      ∧ ∀ slot : Nat, (s.stream i).desc.fillMode = .hold → (s.stream i).consumer.holdSource = .slot →
          (s.stream i).consumer.heldSlot = some slot →
        exec (.readBeat p) s =
          .next (State.settle (State.arbitrate { s with
            streams := s.streams.set i st
            ports := s.ports.set p
              (Port.joinSegment
                { s.port p with txn := some { readHanded t with outstanding := t.outstanding + 1 } } .hold .read
                (BitVec.ofNat 32 ((s.stream i).desc.base.toNat + slot * (s.stream i).desc.frameBytes + offset))
                (s.binding i)
                { beat := t.position, data := none, frame := (s.stream i).consumed - 1#32, entry := 0
                  last := false }) })))

/-- R36, R78, R96: a read beat is answered with fill_word, OKAY, and changes no stream, in an ENDED stream, at a
lost read, and where its session has been closed, with the fill_word of that session, also after a new OPEN (log entry
12). R78, R119: a misplaced read is answered with fill_word, loses placement, posts PLACE misplaced and is counted; inside
a REAL frame it also ends it: the entry leaves the delivery list, undelivered, and the consumer accumulator returns to
that frame's checkpoint. R79, R119: an early read ends the frame in the same way, posts PLACE early, is counted, and is
then taken as a frame start: its effect is that of the same beat in the state so left, between frames. -/
def Obligations.ReadsOutsideFramesAreAnsweredWithFillWord : Prop :=
  ∀ (s : State) (p : PortId) (i : StreamId) (t : Transaction) (b : Binding), TransactionInForm t →
    (ConsumerBeatDue s p i t →
      (s.stream i).state = .ended
        ∨ (s.stream i).consumer.placement = .lost ∧ beatOffset s i t ≠ 0 →
      exec (.readBeat p) s =
        .next (State.settle { s with
          ports := s.ports.set p (portAnswered s p t { data := (s.stream i).desc.fillWord, status := .okay }) }))
    ∧ (ReadBeatDue s p t → t.cls = some (.consumer b) →
        (s.stream b.stream).state = .closed ∨ (s.stream b.stream).session ≠ b.session →
      exec (.readBeat p) s =
        .next (State.settle { s with
          ports := s.ports.set p (portAnswered s p t { data := b.fillWord, status := .okay }) }))
    ∧ (ConsumerBeatDue s p i t → (s.stream i).state ≠ .ended → (s.stream i).consumer.placement = .inStep →
        beatOffset s i t ≠ 0 → beatOffset s i t ≠ (s.stream i).consumer.position →
      exec (.readBeat p) s =
        .next (State.settle { s with
          streams := s.streams.set i
            { readingEnded (s.stream i) with
              consumer := { (readingEnded (s.stream i)).consumer with
                placement := .lost, position := 0, verdict := .lostFill }
              counters := { (s.stream i).counters with
                consumerLosses := counterUp (s.stream i).counters.consumerLosses } }
          queue := s.queue.post .place (streamSubject i) .consumer 2#32 0#32
          ports := s.ports.set p (portAnswered s p t { data := (s.stream i).desc.fillWord, status := .okay }) }))
    ∧ (ConsumerBeatDue s p i t → (s.stream i).state ≠ .ended → (s.stream i).consumer.placement = .inStep →
        beatOffset s i t = 0 → (s.stream i).consumer.position ≠ 0 →
      exec (.readBeat p) s =
        exec (.readBeat p) { s with
          streams := s.streams.set i
            { readingEnded (s.stream i) with
              consumer := { (readingEnded (s.stream i)).consumer with position := 0, verdict := .none }
              counters := { (s.stream i).counters with
                consumerLosses := counterUp (s.stream i).counters.consumerLosses } }
          queue := s.queue.post .place (streamSubject i) .consumer 1#32 0#32 })

/-! ## Commits, consumes, budgets and spans (R49, R50, R83, R98, R103, R120) -/

/-- R49, R50: an OKAY completion of a producer segment takes its beats in order, and each that is the last of a frame
still in flight commits it, so the frames commit one after another: P grows by their number and the producer cursor
advances as many slots; no other stream changes (the premises that the ports and the responses are in form are kept by
every step, EveryStepKeepsThePortsInForm). The completion is applied whole before the memory port is FREE (log entry 7).
R49, R117, R131, R98: a commit raises P, advances the cursor, drops the oldest entry, and hands on the span's CRC, the
pace count and the budget test, in this order (log entry 8). R89, R129, R130: it then releases a held consumer read as a
REAL frame, both lines tested at the return to FLOWING (log entry 15); R81: a deferred read is decided as if its beat
were handed on now; any other read is left as it is. -/
def Obligations.OkayCompletionCommitsTheFramesItEnds : Prop :=
  (∀ (s : State) (i : StreamId) (g : Granted) (n : Nat), s.memory = some g →
    g.writeReady = true → g.discarded = false → g.segment.kind = .producer → g.segment.binding = some (s.binding i) →
    (s.stream i).state ≠ .closed →
    exec (.memoryWriteCompletion .okay) s =
      .next (State.freeMemory (State.settle (State.producerOkay
        { s with
          ports := s.ports.set g.owner
            { s.port g.owner with
              txn := (s.port g.owner).txn.map fun t =>
                { t with outstanding := t.outstanding - g.segment.beats.length } } } i g.segment.beats)))
    ∧ (PortsInForm s → ResponsesInForm s →
      (s.stream i).producerCursor < (s.stream i).desc.depth → ((s.stream i).producer.inFlight.map (·.id)).Nodup →
      (g.segment.beats.filter (·.last)).map (·.entry) = ((s.stream i).producer.inFlight.take n).map (·.id) →
      n ≤ (s.stream i).producer.inFlight.length →
      ∃ t, exec (.memoryWriteCompletion .okay) s = .next t
        ∧ (t.stream i).committed = (s.stream i).committed + BitVec.ofNat 32 n
        ∧ (t.stream i).producerCursor = ((s.stream i).producerCursor + n) % (s.stream i).desc.depth
        ∧ (t.stream i).consumed = (s.stream i).consumed ∧ (t.stream i).desc = (s.stream i).desc
        ∧ (∀ j : StreamId, j ≠ i → t.stream j = s.stream j)
        ∧ t.spi = s.spi ∧ t.timebase = s.timebase ∧ t.polynomial = s.polynomial ∧ t.initial = s.initial))
  ∧ (∀ (s u : State) (i : StreamId) (y : SegmentBeat) (rest : List SegmentBeat),
      s.producerOkay i [] = s
      ∧ (u = { s with
          streams := s.streams.set i
            { s.stream i with
              producer := { (s.stream i).producer with
                inFlight := (s.stream i).producer.inFlight.map fun e =>
                  if e.id = y.entry then { e with outstanding := e.outstanding - 1 } else e } } } →
        (y.last = true → (∃ e ∈ (s.stream i).producer.inFlight, e.id = y.entry) →
          s.producerOkay i (y :: rest) = (u.commit i).producerOkay i rest)
        ∧ (y.last = false ∨ (∀ e ∈ (s.stream i).producer.inFlight, e.id ≠ y.entry) →
          s.producerOkay i (y :: rest) = u.producerOkay i rest)))
  ∧ (∀ (s : State) (i : StreamId),
      s.commit i =
        State.commitReachesConsumer (State.budgetTest (State.paceCount { s with
          streams := s.streams.set i
            { s.stream i with
              committed := (s.stream i).committed + 1#32
              producerCursor :=
                if (s.stream i).producerCursor + 1 = (s.stream i).desc.depth then 0 else (s.stream i).producerCursor + 1
              producer := { (s.stream i).producer with inFlight := (s.stream i).producer.inFlight.drop 1 }
              span := (s.stream i).span.map SpanState.commit } } i .producer) i) i)
  ∧ (∀ (s : State) (i : StreamId) (p : PortId) (t : Transaction) (h : Hold) (slot : Nat),
      (s.stream i).consumer.phase = .waiting → p = (s.stream i).desc.consumerPort → (s.port p).txn = some t →
      t.cls = some (.consumer (s.binding i)) → t.hold = some h →
      slot = ((s.stream i).consumerCursor + (s.stream i).consumer.delivery.length) % (s.stream i).desc.depth →
      s.commitReachesConsumer i =
        State.arbitrate { s with
          streams := s.streams.set i
            { s.stream i with
              consumer := { (s.stream i).consumer with
                phase := .flowing
                position := positionAfterStart (s.stream i)
                verdict := if (s.stream i).desc.frameBytes = 4 then .none else .real
                nextEntry := (s.stream i).consumer.nextEntry + 1
                delivery := (s.stream i).consumer.delivery ++
                  [{ id := (s.stream i).consumer.nextEntry, index := (s.stream i).nextConsumerIndex, slot := slot
                     stage := if (s.stream i).desc.frameBytes = 4 then .sealed else .reading, faulted := false }] }
              span := (s.stream i).span.map fun sp => { sp with consumerRecord := some .unset } }
          lines := linesResumed s i .consumer
            { s.stream i with consumer := { (s.stream i).consumer with phase := .flowing } }
          ports := s.ports.set p
            (Port.joinSegment
              { s.port p with
                txn := some { t with
                  hold := none, outstanding := t.outstanding + 1
                  responses := t.responses.map fun x =>
                    if x.beat = t.position - 1 then
                      { x with mark := some { entry := (s.stream i).consumer.nextEntry
                                              frame := (s.stream i).nextConsumerIndex
                                              last := decide ((s.stream i).desc.frameBytes = 4) } }
                    else x } }
              .real .read (BitVec.ofNat 32 ((s.stream i).desc.base.toNat + slot * (s.stream i).desc.frameBytes))
              (s.binding i)
              { beat := t.position - 1, data := none, frame := (s.stream i).nextConsumerIndex
                entry := (s.stream i).consumer.nextEntry, last := decide ((s.stream i).desc.frameBytes = 4) }) })
  ∧ (∀ (s : State) (i : StreamId), (s.stream i).consumer.phase ≠ .waiting →
      s.commitReachesConsumer i = s.decideDeferred i
      ∧ (s.hasDeferred i = false → s.commitReachesConsumer i = s))
  ∧ (∀ (s : State) (i : StreamId) (p : PortId) (t : Transaction) (owed : List ResponseSlot),
      p = (s.stream i).desc.consumerPort → (s.port p).txn = some t → t.cls = some (.consumer (s.binding i)) →
      t.deferred = true → t.hold = none → t.dir = .read → 1 ≤ t.position → t.position ≤ t.beats →
      t.responses = owed ++ [{ beat := t.position - 1, mark := none, value := none }] →
      (s.stream i).state ≠ .closed → (s.stream i).consumer.placement = .inStep → (s.stream i).consumer.position = 0 →
      beatOffset s i { t with position := t.position - 1 } = 0 →
      exec (.readBeat p)
        { s with
          ports := s.ports.set p
            { s.port p with txn := some { t with deferred := false, position := t.position - 1, responses := owed } } }
        = .next (State.settle (s.decideDeferred i)))

/-- R53, R54, R139, R140: an ERROR completion of a producer segment abandons the frames from the oldest one it carries
that is still in flight, posts one MEMFAULT with that index and counts it; a FILLING frame among them loses placement;
the room it makes may release a held write, and the drain test is made, after these steps (log entry 9). With no such
frame only the MEMFAULT and its counter remain, with the index the first beat of the segment was forwarded for, as the
oldest (log entry 20). A plain, PASS or discarded result reaches no path. The result is applied whole before the memory
port is FREE (log entry 7). -/
def Obligations.WriteResultGoesWhereItsKindSays : Prop :=
  ∀ (s x : State) (i : StreamId) (g : Granted) (r : BusStatus) (older newer : List InFlight) (e : InFlight),
    s.memory = some g → g.writeReady = true →
    x = { s with
      ports := s.ports.set g.owner
        { s.port g.owner with
          txn := (s.port g.owner).txn.map fun t =>
            { t with
              outstanding := t.outstanding - g.segment.beats.length
              anyError := t.anyError || decide (r = .error) || g.discarded } } } →
    (g.discarded = true ∨ g.segment.kind = .plain ∨ g.segment.kind = .pass →
      exec (.memoryWriteCompletion r) s = .next (State.freeMemory (State.settle x)))
    ∧ (g.discarded = false → g.segment.kind = .producer → g.segment.binding = some (s.binding i) →
        (s.stream i).state ≠ .closed → r = .error →
        (((∀ y ∈ g.segment.beats, ∀ f ∈ (s.stream i).producer.inFlight, y.entry ≠ f.id) →
          ∀ y rest, g.segment.beats = y :: rest →
          exec (.memoryWriteCompletion r) s =
            .next (State.freeMemory (State.settle { x with
              streams := x.streams.set i
                { x.stream i with counters := { (x.stream i).counters with
                    memoryFaults := counterUp (x.stream i).counters.memoryFaults } }
              queue := s.queue.post .memfault (streamSubject i) .producer y.frame 0#32 })))
        ∧ ((s.stream i).producer.inFlight = older ++ e :: newer →
            (∃ y ∈ g.segment.beats, y.entry = e.id) →
            (∀ y ∈ g.segment.beats, ∀ f ∈ older, y.entry ≠ f.id) →
          ∀ a : State, a = x.abandonProducer i g.owner older.length →
          exec (.memoryWriteCompletion r) s =
            .next (State.freeMemory (State.settle (State.drainTest (State.roomEvent { a with
              streams := a.streams.set i
                { a.stream i with
                  producer :=
                    if ∃ f ∈ e :: newer, f.stage = .filling then
                      { (a.stream i).producer with placement := .lost, position := 0, treatment := .none }
                    else (a.stream i).producer
                  counters := { (a.stream i).counters with
                    memoryFaults := counterUp (a.stream i).counters.memoryFaults } }
              queue := s.queue.post .memfault (streamSubject i) .producer e.index 0#32 } i) i))))))

/-- R23, R85, R92, R139, R140: one beat of a read segment, a command of its own (log entry 6), gives its beat's response
its value: the memory's data and status for a plain or PASS beat, data 0 with ERROR for a REAL beat in error, the data or
fill_word (with a MEMFAULT) for a HOLD beat, and ERROR for a discarded one; then what is due is returned, and after the
last beat the memory port is FREE and the arbiter grants (log entry 7). R23, R57: what is due is returned one response at
a time, the head of a port's list once it is known, in beat order and the lower port first (log entry 21): it is
returned once, a REAL beat's return reaches the Consumer Path, and a read whose last response this is is over, the port
IDLE. When no response is due, a write with every beat accepted and disposed of and none outstanding is completed, ERROR
if a beat of it had one and OKAY otherwise, and its port is IDLE. Nothing due is kept back. -/
def Obligations.ReadDataGoesWhereItsKindSays : Prop :=
  (∀ (s x : State) (g : Granted) (y : SegmentBeat) (rest : List SegmentBeat) (b : Binding) (data : Word) (r : BusStatus)
    (v : Response), s.memory = some g → g.segment.dir = .read → g.segment.beats.drop g.answered = y :: rest →
    (g.discarded = true ∧ v = { data := 0#32, status := .error }
      ∨ g.discarded = false ∧ (g.segment.kind = .plain ∨ g.segment.kind = .pass) ∧ v = { data := data, status := r }
      ∨ g.discarded = false ∧ g.segment.kind = .real ∧ g.segment.binding = some b
        ∧ v = { data := if r = .okay then data else 0#32, status := r }
      ∨ g.discarded = false ∧ g.segment.kind = .hold ∧ g.segment.binding = some b
        ∧ v = { data := if r = .okay then data else b.fillWord, status := .okay }) →
    x = { s with
      memory := some { g with answered := g.answered + 1 }
      ports := s.ports.set g.owner
        { s.port g.owner with
          txn := (s.port g.owner).txn.map fun t =>
            { t with
              outstanding := t.outstanding - 1
              responses := t.responses.map fun z => if z.beat = y.beat then { z with value := some v } else z } }
      streams :=
        if g.discarded = false ∧ g.segment.kind = .hold ∧ r = .error ∧ s.live b = true then
          s.streams.set b.stream
            { s.stream b.stream with counters := { (s.stream b.stream).counters with
                memoryFaults := counterUp (s.stream b.stream).counters.memoryFaults } }
        else s.streams
      queue :=
        if g.discarded = false ∧ g.segment.kind = .hold ∧ r = .error ∧ s.live b = true then
          s.queue.post .memfault (streamSubject b.stream) .consumer y.frame 0#32
        else s.queue } →
    exec (.memoryReadData data r) s =
      .next (if g.answered + 1 < g.segment.beats.length then State.settle x else State.freeMemory (State.settle x)))
  ∧ (∀ (s u v : State) (p : PortId) (t : Transaction) (x : ResponseSlot) (rest : List ResponseSlot) (r : Response)
      (b : Binding) (m : RealMark), (∀ q : PortId, ∀ y ∈ (s.port q).txn, TransactionInForm y) →
      (s.port p).txn = some t → t.responses = x :: rest → x.value = some r →
      (∀ q : PortId, q.val < p.val → (s.port q).responseDue = none) →
      u = { s with
        ports := s.ports.set p
          { s.port p with
            returned := (s.port p).returned ++ [r]
            txn := some { t with responses := rest } } } →
      (x.mark = none ∨ (∀ c ∈ t.cls, consumerBinding c = none)) ∧ v = u
        ∨ t.cls = some (.consumer b) ∧ x.mark = some m ∧ v = u.realReturned b m r →
      s.settle =
        State.settle
          (if ∃ y ∈ (v.port p).txn, y.dir = .read ∧ y.responses = [] ∧ y.position = y.beats then
            { v with ports := v.ports.set p { v.port p with txn := none, segments := [], newestOpen := false } }
          else v))
  ∧ (∀ s : State, (∀ p : PortId, (s.port p).responseDue = none) →
      { s.settle with ports := s.ports } = s
      ∧ ∀ p : PortId,
          ((s.port p).txn = none → s.settle.port p = s.port p)
          ∧ ∀ t : Transaction, (s.port p).txn = some t →
              (t.dir = .write → t.position = t.beats → t.outstanding = 0 → t.hold = none →
                s.settle.port p =
                  { s.port p with
                    txn := none, segments := [], newestOpen := false
                    completion := some (if t.anyError = true then .error else .okay) })
              ∧ (t.dir = .read ∨ t.position ≠ t.beats ∨ t.outstanding ≠ 0 ∨ t.hold ≠ none →
                s.settle.port p = s.port p))
  ∧ (∀ s : State, (∀ q : PortId, ∀ y ∈ (s.port q).txn, TransactionInForm y) → NothingDue s.settle)

/-- R82, R83, R85: the return upstream of a REAL frame's last beat, its entry still in the delivery list, consumes
the oldest frame: C grows by 1, the consumer cursor advances and delivered-once is set; a beat whose session has
ended changes nothing. R83, R120, R131, R65, R103: a consume hands on, in this order (log entry 8), the span's check, the
pace count, the room event and the end test; then the drain test, or the decision of a frame start deferred behind the
frames now all delivered. R118, R85: a REAL beat returned OKAY enters the accumulator; one in error enters nothing, and
its entry is faulted and reported by one MEMFAULT; a beat of an entry no longer in the list only reports its error. R108,
R81: where the consume that empties the delivery list also drains the stream and a frame start is deferred behind it, the
stream closes whichever of the two is taken first, with DRAINED posted; it holds for every value of the free choice (log
entry 10). -/
def Obligations.ReturnOfTheLastBeatConsumesTheFrame : Prop :=
  (∀ (s : State) (b : Binding) (m : RealMark) (r : Response) (e : Delivery) (rest : List Delivery),
      (s.live b = false → s.realReturned b m r = s)
      ∧ (s.live b = true → (s.stream b.stream).consumer.delivery = e :: rest → (∃ f ∈ e :: rest, f.id = m.entry) →
          m.last = true →
          ((s.realReturned b m r).stream b.stream).consumed = (s.stream b.stream).consumed + 1#32
          ∧ ((s.realReturned b m r).stream b.stream).consumerCursor
            = (if (s.stream b.stream).consumerCursor + 1 = (s.stream b.stream).desc.depth then 0
              else (s.stream b.stream).consumerCursor + 1)
          ∧ ((s.realReturned b m r).stream b.stream).consumer.deliveredOnce = true
          ∧ ((s.realReturned b m r).stream b.stream).committed = (s.stream b.stream).committed
          ∧ (∀ j : StreamId, j ≠ b.stream → (s.realReturned b m r).stream j = s.stream j)
          ∧ (s.realReturned b m r).spi = s.spi ∧ (s.realReturned b m r).timebase = s.timebase))
  ∧ (∀ (s u : State) (b : Binding) (m : RealMark) (data : Word) (newest : Bool), s.live b = true →
      newest = decide (∃ e ∈ (s.stream b.stream).consumer.delivery.getLast?, e.id = m.entry) →
      ((∃ e ∈ (s.stream b.stream).consumer.delivery, e.id = m.entry) →
        u = { s with
          streams := s.streams.set b.stream
            { s.stream b.stream with
              span := (s.stream b.stream).span.map fun sp => sp.consumerBeat s.polynomial data newest } } →
        s.realReturned b m { data := data, status := .okay } = if m.last = true then u.consume b.stream else u)
      ∧ ((∀ e ∈ (s.stream b.stream).consumer.delivery, e.id ≠ m.entry) →
        s.realReturned b m { data := data, status := .okay } = s
        ∧ s.realReturned b m { data := data, status := .error } =
          { s with
            streams := s.streams.set b.stream
              { s.stream b.stream with counters := { (s.stream b.stream).counters with
                  memoryFaults := counterUp (s.stream b.stream).counters.memoryFaults } }
            queue := s.queue.post .memfault (streamSubject b.stream) .consumer m.frame 0#32 })
      ∧ ((∃ e ∈ (s.stream b.stream).consumer.delivery, e.id = m.entry ∧ e.faulted = false) →
        u = { s with
          streams := s.streams.set b.stream
            { s.stream b.stream with
              consumer := { (s.stream b.stream).consumer with
                delivery := (s.stream b.stream).consumer.delivery.map fun e =>
                  if e.id = m.entry then { e with faulted := true } else e }
              counters := { (s.stream b.stream).counters with
                memoryFaults := counterUp (s.stream b.stream).counters.memoryFaults }
              span := (s.stream b.stream).span.map fun sp => sp.setCheckpoint newest }
          queue := s.queue.post .memfault (streamSubject b.stream) .consumer m.frame 0#32 } →
        s.realReturned b m { data := data, status := .error } = if m.last = true then u.consume b.stream else u)
      ∧ ((∃ e ∈ (s.stream b.stream).consumer.delivery, e.id = m.entry) →
        (∀ e ∈ (s.stream b.stream).consumer.delivery, e.id = m.entry → e.faulted = true) →
        u = { s with
          streams := s.streams.set b.stream
            { s.stream b.stream with span := (s.stream b.stream).span.map fun sp => sp.setCheckpoint newest } } →
        s.realReturned b m { data := data, status := .error } = if m.last = true then u.consume b.stream else u))
  ∧ (∀ (s : State) (i : StreamId) (e : Delivery) (rest : List Delivery),
      ((s.stream i).consumer.delivery = [] → s.consume i = s)
      ∧ ((s.stream i).consumer.delivery = e :: rest →
        s.consume i =
          State.afterConsume (State.endTest (State.roomEvent (State.paceCount (State.spanConsume { s with
            streams := s.streams.set i
              { s.stream i with
                consumed := (s.stream i).consumed + 1#32
                consumerCursor :=
                  if (s.stream i).consumerCursor + 1 = (s.stream i).desc.depth then 0
                  else (s.stream i).consumerCursor + 1
                consumer := { (s.stream i).consumer with delivery := rest, deliveredOnce := true } } }
            i e.slot e.faulted) i .consumer) i) i) i)
      ∧ (s.hasDeferred i = false ∨ (s.stream i).consumer.delivery ≠ [] → s.afterConsume i = s.drainTest i)
      ∧ (s.hasDeferred i = true → (s.stream i).consumer.delivery = [] →
          (s.stream i).state ≠ .draining ∨ (s.stream i).committed ≠ (s.stream i).consumed
            ∨ (s.stream i).producer.inFlight ≠ [] →
        s.afterConsume i = s.decideDeferred i))
  ∧ (∀ (s : State) (i : StreamId), (s.stream i).state = .draining → (s.stream i).committed = (s.stream i).consumed →
        (s.stream i).producer.inFlight = [] → (s.stream i).consumer.delivery = [] → s.hasDeferred i = true →
        (s.stream i).consumer.phase = .flowing →
        ((s.afterConsume i).stream i).state = .closed
        ∧ (s.afterConsume i).choices = s.choices + 1
        ∧ ((s.afterConsume i).stream i).consumed = (s.stream i).consumed
        ∧ (s.afterConsume i = State.drainTest { s with choices := s.choices + 1 } i
          ∨ s.afterConsume i = State.drainTest (State.decideDeferred { s with choices := s.choices + 1 } i) i))

/-- R98, R103: the budget test takes a pending extension, with EXTENDED, or sets the producer DONE, with PRODUCED,
at the commit that brings P to budget_now; the end test sets the consumer DONE and the stream ENDED, with ENDED, at
the consume that brings C there with the producer DONE. R132: a side that becomes DONE drops its line; R129: a drop is
tested for both lines of the stream. Either test does
nothing otherwise. -/
def Obligations.BudgetAndEndTestsActAtTheLimit : Prop :=
  ∀ (s : State) (i : StreamId),
    ((s.stream i).desc.budget = 0 ∨ (s.stream i).committed.toNat ≠ (s.stream i).budgetNow → s.budgetTest i = s)
    ∧ ((s.stream i).desc.budget ≠ 0 → (s.stream i).committed.toNat = (s.stream i).budgetNow →
        (∀ n : Nat, (s.stream i).extension = some n →
          s.budgetTest i =
            { s with
              streams := s.streams.set i
                { s.stream i with budgetNow := (s.stream i).budgetNow + n, extension := none }
              queue := s.queue.post .extended (streamSubject i) .producer
                (BitVec.ofNat 32 ((s.stream i).budgetNow + n)) 0#32 })
        ∧ ((s.stream i).extension = none →
          s.budgetTest i =
            { s with
              streams := s.streams.set i
                { s.stream i with producer := { (s.stream i).producer with phase := .done } }
              queue := s.queue.post .produced (streamSubject i) .producer (s.stream i).committed 0#32
              lines := linesDropped s i .producer
                { s.stream i with producer := { (s.stream i).producer with phase := .done } } }))
    ∧ ((s.stream i).state ≠ .opened ∨ (s.stream i).desc.budget = 0 ∨ (s.stream i).producer.phase ≠ .done
        ∨ (s.stream i).consumed.toNat ≠ (s.stream i).budgetNow → s.endTest i = s)
    ∧ ((s.stream i).state = .opened → (s.stream i).desc.budget ≠ 0 → (s.stream i).producer.phase = .done →
        (s.stream i).consumed.toNat = (s.stream i).budgetNow →
        s.endTest i =
          { s with
            streams := s.streams.set i
              { s.stream i with state := .ended, consumer := { (s.stream i).consumer with phase := .done } }
            queue := s.queue.post .ended (streamSubject i) .consumer (s.stream i).consumed 0#32
            lines := linesDropped s i .consumer
              { s.stream i with state := .ended, consumer := { (s.stream i).consumer with phase := .done } } })

/-- R120, R121: at the consume of a span's last frame the head record is removed and the accumulator reseeded; a
void span is counted and not compared; a span whose two CRCs differ is counted and posts MISMATCH with the span
number and their exclusive-or; equal CRCs report nothing. Any other consume only sets the void flag for a faulted
frame. R115: a placed frame's start records the accumulator as its checkpoint; each of its beats is taken into the
accumulator, its 4 bytes in ascending address order (byte lanes: log entry 3); at the span's last beat the result is set
aside in the frame's record and the accumulator reseeded. R117: a commit drops the oldest record and pushes a CRC set
aside in it, with the next span number. R118: the first returned beat of the newest frame in delivery, OKAY or not, fixes
its open checkpoint, and a beat returned OKAY is then taken into the consumer accumulator. R112: a byte is taken in bit by
bit, the most significant first: the register doubles, and where its highest bit differs from the data bit the polynomial
is combined by exclusive-or. -/
def Obligations.CompletedSpanIsComparedUnlessVoid : Prop :=
  (∀ (s : State) (i : StreamId) (slot : Nat) (faulted : Bool) (sp : SpanState) (head : SpanRecord)
    (rest : List SpanRecord), (s.stream i).span = some sp →
    ((slot + 1) % (s.stream i).desc.spanLength ≠ 0 →
      s.spanConsume i slot faulted =
        { s with
          streams := s.streams.set i
            { s.stream i with span := some { sp with spanVoid := sp.spanVoid || faulted } } })
    ∧ ((slot + 1) % (s.stream i).desc.spanLength = 0 → sp.queue = head :: rest →
        (sp.spanVoid = true ∨ faulted = true →
          s.spanConsume i slot faulted =
            { s with
              streams := s.streams.set i
                { s.stream i with
                  counters := { (s.stream i).counters with voidSpans := counterUp (s.stream i).counters.voidSpans }
                  span := some { sp with queue := rest, consumerAcc := s.initial, spanVoid := false
                                         consumerSpan := sp.consumerSpan + 1#32 } } })
        ∧ (sp.spanVoid = false → faulted = false → head.crc = sp.consumerAcc →
          s.spanConsume i slot faulted =
            { s with
              streams := s.streams.set i
                { s.stream i with
                  span := some { sp with queue := rest, consumerAcc := s.initial, spanVoid := false
                                         consumerSpan := sp.consumerSpan + 1#32 } } })
        ∧ (sp.spanVoid = false → faulted = false → head.crc ≠ sp.consumerAcc →
          s.spanConsume i slot faulted =
            { s with
              queue := s.queue.post .mismatch (streamSubject i) .consumer sp.consumerSpan (head.crc ^^^ sp.consumerAcc)
              streams := s.streams.set i
                { s.stream i with
                  counters := { (s.stream i).counters with mismatches := counterUp (s.stream i).counters.mismatches }
                  span := some { sp with queue := rest, consumerAcc := s.initial, spanVoid := false
                                         consumerSpan := sp.consumerSpan + 1#32 } } })))
  ∧ (∀ (sp : SpanState) (polynomial initial data crc : Word) (older : List ProducerRecord) (r : ProducerRecord)
      (rest : List ProducerRecord),
      crc = crcBytes polynomial sp.producerAcc
        [data.extractLsb' 0 8, data.extractLsb' 8 8, data.extractLsb' 16 8, data.extractLsb' 24 8] →
      sp.producerStart
        = { sp with producerRecords := sp.producerRecords ++ [{ checkpoint := sp.producerAcc, spanCrc := none }] }
      ∧ sp.producerBeat polynomial initial data false = { sp with producerAcc := crc }
      ∧ (sp.producerRecords = older ++ [r] →
        sp.producerBeat polynomial initial data true
          = { sp with producerAcc := initial, producerRecords := older ++ [{ r with spanCrc := some crc }] })
      ∧ (sp.producerRecords = r :: rest →
        (r.spanCrc = none → sp.commit = { sp with producerRecords := rest })
        ∧ ∀ c : Word, r.spanCrc = some c →
            sp.commit =
              { sp with
                producerRecords := rest
                queue := sp.queue ++ [{ span := sp.producerSpan, crc := c }]
                producerSpan := sp.producerSpan + 1#32 }))
  ∧ (∀ (sp : SpanState) (polynomial data crc : Word) (newest : Bool),
      crc = crcBytes polynomial sp.consumerAcc
        [data.extractLsb' 0 8, data.extractLsb' 8 8, data.extractLsb' 16 8, data.extractLsb' 24 8] →
      (newest = true → sp.consumerRecord = some .unset →
        sp.consumerBeat polynomial data newest
          = { sp with consumerAcc := crc, consumerRecord := some (.value sp.consumerAcc) }
        ∧ sp.setCheckpoint newest = { sp with consumerRecord := some (.value sp.consumerAcc) })
      ∧ (newest = false ∨ sp.consumerRecord ≠ some .unset →
        sp.consumerBeat polynomial data newest = { sp with consumerAcc := crc } ∧ sp.setCheckpoint newest = sp))
  ∧ (∀ (polynomial reg : Word) (b : Byte) (rest : List Byte) (bit : Bool),
      crcBytes polynomial reg [] = reg
      ∧ crcBytes polynomial reg (b :: rest) = crcBytes polynomial (crcByte polynomial reg b) rest
      ∧ crcByte polynomial reg b =
          ((List.range 8).map fun k => decide (b.toNat / 2 ^ (7 - k) % 2 = 1)).foldl (crcBit polynomial) reg
      ∧ crcBit polynomial reg bit =
          if decide (0x80000000 ≤ reg.toNat) = bit then BitVec.ofNat 32 (2 * reg.toNat)
          else BitVec.ofNat 32 (2 * reg.toNat) ^^^ polynomial)

/-! ## Segments and the arbiter (R135, R138) -/

/-- R135: a forwarded beat joins the port's open segment where its address is 4 more than that segment's last beat, its
kind is the same and the segment holds fewer than 16 beats; otherwise it begins a new open segment at the tail. R134,
R138: a memory port that becomes FREE is granted again at once. R138: while the memory port is FREE the arbiter grants
the oldest segment of the first port, in cyclic order from the one after the pointer, that has one; the pointer names
that port. With none ready, or while the port is BUSY, nothing changes. -/
def Obligations.SegmentsGrowAndTheArbiterGrantsInCyclicOrder : Prop :=
  (∀ (port : Port) (older : List Segment) (g : Segment) (kind : SegmentKind) (dir : Dir) (addr : Word) (b : Binding)
      (beat : SegmentBeat),
      (port.segments = older ++ [g] → port.newestOpen = true → addr.toNat = g.addr.toNat + 4 * g.beats.length →
          g.kind = kind → g.beats.length < 16 →
        port.joinSegment kind dir addr b beat
          = { port with segments := older ++ [{ g with beats := g.beats ++ [beat] }] })
      ∧ (port.segments = []
          ∨ port.segments = older ++ [g] ∧ (port.newestOpen = false ∨ addr.toNat ≠ g.addr.toNat + 4 * g.beats.length
            ∨ g.kind ≠ kind ∨ 16 ≤ g.beats.length) →
        port.joinSegment kind dir addr b beat
          = { port with
              newestOpen := true
              segments := port.segments ++
                [{ kind := kind, dir := dir, addr := addr, binding := some b, beats := [beat] }] }))
  ∧ (∀ (s : State),
        s.freeMemory = State.arbitrate { s with memory := none }
        ∧ (s.memory ≠ none ∨ (∀ p : PortId, (s.port p).segments = []) → s.arbitrate = s)
        ∧ ∀ (n : Nat) (p : PortId) (g : Segment) (rest : List Segment), s.memory = none → n < 4 →
            p.val = (s.lastGranted.val + 1 + n) % 4 → (s.port p).segments = g :: rest →
            (∀ (m : Nat) (q : PortId), m < n → q.val = (s.lastGranted.val + 1 + m) % 4 → (s.port q).segments = []) →
            s.arbitrate =
              { s with
                memory := some { owner := p, segment := g, answered := 0, discarded := false }
                lastGranted := p
                ports := s.ports.set p
                  { s.port p with
                    segments := rest
                    newestOpen := (s.port p).newestOpen && decide (rest ≠ []) } })

/-! ## What every step keeps -/

/-- R143, R144: every step keeps the form of the Notice Queue. -/
def Obligations.EveryStepKeepsTheNoticeAccount : Prop :=
  ∀ s t : State, NoticesInForm s.queue → step s = .next t → NoticesInForm t.queue

/-- R2, R3, R4, R16: every step keeps the descriptors of the streams that are not CLOSED in range, and their bodies
apart. -/
def Obligations.EveryStepKeepsTheBodiesApart : Prop :=
  ∀ s t : State, TableInForm s → step s = .next t → TableInForm t

/-- R124, R126, R128, R132, R133: every step keeps the pace lines in form: a line GRANTED or IN_PACKET only while
its side flows, none bound to a CLOSED stream, and at most one to a side. -/
def Obligations.EveryStepKeepsThePaceLinesInForm : Prop :=
  ∀ s t : State, LinesInForm s → step s = .next t → LinesInForm t

/-- R21, R23, R134, R135, R138: every step keeps the ports in form: no segment waits while the memory port is FREE,
no response or completion that is due is kept back, and no segment or transaction grows past 16 beats. R23, R81: every
step keeps the responses a read owes in ascending order of their beats, and a deferred read's newest beat no REAL one. -/
def Obligations.EveryStepKeepsThePortsInForm : Prop :=
  (∀ s t : State, PortsInForm s → step s = .next t → PortsInForm t)
  ∧ (∀ s t : State, ResponsesInForm s → step s = .next t → ResponsesInForm t)

/-- R5, R8, R39, R51, R60, R76, R87: every step keeps the ring of every stream that is not CLOSED: committed,
in-flight and held slots never exceed the depth, C never passes P, and both lists follow their counts and cursors. The
budgets in form (R69, R98) rule out a held producer write in phase DONE. -/
def Obligations.EveryStepKeepsTheRingsInForm : Prop :=
  ∀ s t : State, RingsInForm s → BudgetsInForm s → step s = .next t → RingsInForm t

/-- R5, R45, R50, R69, R98: every step keeps C ≤ P ≤ budget_now in every budgeted stream that is not CLOSED. -/
def Obligations.EveryStepKeepsTheBudgets : Prop :=
  ∀ s t : State, RingsInForm s → BudgetsInForm s → step s = .next t → BudgetsInForm t

/-- R151, R159, R161: every step keeps the management port and the timebase in form. -/
def Obligations.EveryStepKeepsThePinsInForm : Prop :=
  ∀ s t : State, PinsInForm s → step s = .next t → PinsInForm t

/-- The state after reset meets every form. -/
def Obligations.ResetStateMeetsEveryForm : Prop := Safe State.reset
end

