-- ==== Sys2Proof/Laws/State.lean ====
section
/-! SUPPORT. What each update of State leaves as it is, and what a record reads after an update of it: one lemma per
field per update, each tagged simp, so that no proof unfolds a record update. -/

namespace Sys2Proof.Machine

open Sys2Proof

variable (s : State)

/-! ## Fields an update does not touch -/

@[simp] theorem State.modStream_ports (i : StreamId) (f : Stream → Stream) : (s.modStream i f).ports = s.ports := rfl
@[simp] theorem State.modStream_memory (i : StreamId) (f : Stream → Stream) :
    (s.modStream i f).memory = s.memory := rfl
@[simp] theorem State.modStream_lastGranted (i : StreamId) (f : Stream → Stream) :
    (s.modStream i f).lastGranted = s.lastGranted := rfl
@[simp] theorem State.modStream_polynomial (i : StreamId) (f : Stream → Stream) :
    (s.modStream i f).polynomial = s.polynomial := rfl
@[simp] theorem State.modStream_initial (i : StreamId) (f : Stream → Stream) :
    (s.modStream i f).initial = s.initial := rfl
@[simp] theorem State.modStream_lines (i : StreamId) (f : Stream → Stream) : (s.modStream i f).lines = s.lines := rfl
@[simp] theorem State.modStream_queue (i : StreamId) (f : Stream → Stream) : (s.modStream i f).queue = s.queue := rfl
@[simp] theorem State.modStream_spi (i : StreamId) (f : Stream → Stream) : (s.modStream i f).spi = s.spi := rfl
@[simp] theorem State.modStream_timebase (i : StreamId) (f : Stream → Stream) :
    (s.modStream i f).timebase = s.timebase := rfl
@[simp] theorem State.modStream_porHigh (i : StreamId) (f : Stream → Stream) :
    (s.modStream i f).porHigh = s.porHigh := rfl
@[simp] theorem State.modStream_csHigh (i : StreamId) (f : Stream → Stream) :
    (s.modStream i f).csHigh = s.csHigh := rfl
@[simp] theorem State.modStream_choices (i : StreamId) (f : Stream → Stream) :
    (s.modStream i f).choices = s.choices := rfl
@[simp] theorem State.modStream_pending (i : StreamId) (f : Stream → Stream) :
    (s.modStream i f).pending = s.pending := rfl

@[simp] theorem State.mapStreams_ports (f : Stream → Stream) : (s.mapStreams f).ports = s.ports := rfl
@[simp] theorem State.mapStreams_memory (f : Stream → Stream) : (s.mapStreams f).memory = s.memory := rfl
@[simp] theorem State.mapStreams_lastGranted (f : Stream → Stream) :
    (s.mapStreams f).lastGranted = s.lastGranted := rfl
@[simp] theorem State.mapStreams_polynomial (f : Stream → Stream) : (s.mapStreams f).polynomial = s.polynomial := rfl
@[simp] theorem State.mapStreams_initial (f : Stream → Stream) : (s.mapStreams f).initial = s.initial := rfl
@[simp] theorem State.mapStreams_lines (f : Stream → Stream) : (s.mapStreams f).lines = s.lines := rfl
@[simp] theorem State.mapStreams_queue (f : Stream → Stream) : (s.mapStreams f).queue = s.queue := rfl
@[simp] theorem State.mapStreams_spi (f : Stream → Stream) : (s.mapStreams f).spi = s.spi := rfl
@[simp] theorem State.mapStreams_timebase (f : Stream → Stream) : (s.mapStreams f).timebase = s.timebase := rfl
@[simp] theorem State.mapStreams_porHigh (f : Stream → Stream) : (s.mapStreams f).porHigh = s.porHigh := rfl
@[simp] theorem State.mapStreams_csHigh (f : Stream → Stream) : (s.mapStreams f).csHigh = s.csHigh := rfl
@[simp] theorem State.mapStreams_choices (f : Stream → Stream) : (s.mapStreams f).choices = s.choices := rfl
@[simp] theorem State.mapStreams_pending (f : Stream → Stream) : (s.mapStreams f).pending = s.pending := rfl

@[simp] theorem State.modProducer_ports (i : StreamId) (f : ProducerSide → ProducerSide) :
    (s.modProducer i f).ports = s.ports := rfl
@[simp] theorem State.modProducer_memory (i : StreamId) (f : ProducerSide → ProducerSide) :
    (s.modProducer i f).memory = s.memory := rfl
@[simp] theorem State.modProducer_lastGranted (i : StreamId) (f : ProducerSide → ProducerSide) :
    (s.modProducer i f).lastGranted = s.lastGranted := rfl
@[simp] theorem State.modProducer_polynomial (i : StreamId) (f : ProducerSide → ProducerSide) :
    (s.modProducer i f).polynomial = s.polynomial := rfl
@[simp] theorem State.modProducer_initial (i : StreamId) (f : ProducerSide → ProducerSide) :
    (s.modProducer i f).initial = s.initial := rfl
@[simp] theorem State.modProducer_lines (i : StreamId) (f : ProducerSide → ProducerSide) :
    (s.modProducer i f).lines = s.lines := rfl
@[simp] theorem State.modProducer_queue (i : StreamId) (f : ProducerSide → ProducerSide) :
    (s.modProducer i f).queue = s.queue := rfl
@[simp] theorem State.modProducer_spi (i : StreamId) (f : ProducerSide → ProducerSide) :
    (s.modProducer i f).spi = s.spi := rfl
@[simp] theorem State.modProducer_timebase (i : StreamId) (f : ProducerSide → ProducerSide) :
    (s.modProducer i f).timebase = s.timebase := rfl
@[simp] theorem State.modProducer_porHigh (i : StreamId) (f : ProducerSide → ProducerSide) :
    (s.modProducer i f).porHigh = s.porHigh := rfl
@[simp] theorem State.modProducer_csHigh (i : StreamId) (f : ProducerSide → ProducerSide) :
    (s.modProducer i f).csHigh = s.csHigh := rfl
@[simp] theorem State.modProducer_choices (i : StreamId) (f : ProducerSide → ProducerSide) :
    (s.modProducer i f).choices = s.choices := rfl
@[simp] theorem State.modProducer_pending (i : StreamId) (f : ProducerSide → ProducerSide) :
    (s.modProducer i f).pending = s.pending := rfl

@[simp] theorem State.modConsumer_ports (i : StreamId) (f : ConsumerSide → ConsumerSide) :
    (s.modConsumer i f).ports = s.ports := rfl
@[simp] theorem State.modConsumer_memory (i : StreamId) (f : ConsumerSide → ConsumerSide) :
    (s.modConsumer i f).memory = s.memory := rfl
@[simp] theorem State.modConsumer_lastGranted (i : StreamId) (f : ConsumerSide → ConsumerSide) :
    (s.modConsumer i f).lastGranted = s.lastGranted := rfl
@[simp] theorem State.modConsumer_polynomial (i : StreamId) (f : ConsumerSide → ConsumerSide) :
    (s.modConsumer i f).polynomial = s.polynomial := rfl
@[simp] theorem State.modConsumer_initial (i : StreamId) (f : ConsumerSide → ConsumerSide) :
    (s.modConsumer i f).initial = s.initial := rfl
@[simp] theorem State.modConsumer_lines (i : StreamId) (f : ConsumerSide → ConsumerSide) :
    (s.modConsumer i f).lines = s.lines := rfl
@[simp] theorem State.modConsumer_queue (i : StreamId) (f : ConsumerSide → ConsumerSide) :
    (s.modConsumer i f).queue = s.queue := rfl
@[simp] theorem State.modConsumer_spi (i : StreamId) (f : ConsumerSide → ConsumerSide) :
    (s.modConsumer i f).spi = s.spi := rfl
@[simp] theorem State.modConsumer_timebase (i : StreamId) (f : ConsumerSide → ConsumerSide) :
    (s.modConsumer i f).timebase = s.timebase := rfl
@[simp] theorem State.modConsumer_porHigh (i : StreamId) (f : ConsumerSide → ConsumerSide) :
    (s.modConsumer i f).porHigh = s.porHigh := rfl
@[simp] theorem State.modConsumer_csHigh (i : StreamId) (f : ConsumerSide → ConsumerSide) :
    (s.modConsumer i f).csHigh = s.csHigh := rfl
@[simp] theorem State.modConsumer_choices (i : StreamId) (f : ConsumerSide → ConsumerSide) :
    (s.modConsumer i f).choices = s.choices := rfl
@[simp] theorem State.modConsumer_pending (i : StreamId) (f : ConsumerSide → ConsumerSide) :
    (s.modConsumer i f).pending = s.pending := rfl

@[simp] theorem State.count_ports (i : StreamId) (f : Counters → Counters) : (s.count i f).ports = s.ports := rfl
@[simp] theorem State.count_memory (i : StreamId) (f : Counters → Counters) : (s.count i f).memory = s.memory := rfl
@[simp] theorem State.count_lastGranted (i : StreamId) (f : Counters → Counters) :
    (s.count i f).lastGranted = s.lastGranted := rfl
@[simp] theorem State.count_polynomial (i : StreamId) (f : Counters → Counters) :
    (s.count i f).polynomial = s.polynomial := rfl
@[simp] theorem State.count_initial (i : StreamId) (f : Counters → Counters) :
    (s.count i f).initial = s.initial := rfl
@[simp] theorem State.count_lines (i : StreamId) (f : Counters → Counters) : (s.count i f).lines = s.lines := rfl
@[simp] theorem State.count_queue (i : StreamId) (f : Counters → Counters) : (s.count i f).queue = s.queue := rfl
@[simp] theorem State.count_spi (i : StreamId) (f : Counters → Counters) : (s.count i f).spi = s.spi := rfl
@[simp] theorem State.count_timebase (i : StreamId) (f : Counters → Counters) :
    (s.count i f).timebase = s.timebase := rfl
@[simp] theorem State.count_porHigh (i : StreamId) (f : Counters → Counters) :
    (s.count i f).porHigh = s.porHigh := rfl
@[simp] theorem State.count_csHigh (i : StreamId) (f : Counters → Counters) : (s.count i f).csHigh = s.csHigh := rfl
@[simp] theorem State.count_choices (i : StreamId) (f : Counters → Counters) :
    (s.count i f).choices = s.choices := rfl
@[simp] theorem State.count_pending (i : StreamId) (f : Counters → Counters) :
    (s.count i f).pending = s.pending := rfl

@[simp] theorem State.modSpan_ports (i : StreamId) (f : SpanState → SpanState) :
    (s.modSpan i f).ports = s.ports := rfl
@[simp] theorem State.modSpan_memory (i : StreamId) (f : SpanState → SpanState) :
    (s.modSpan i f).memory = s.memory := rfl
@[simp] theorem State.modSpan_lastGranted (i : StreamId) (f : SpanState → SpanState) :
    (s.modSpan i f).lastGranted = s.lastGranted := rfl
@[simp] theorem State.modSpan_polynomial (i : StreamId) (f : SpanState → SpanState) :
    (s.modSpan i f).polynomial = s.polynomial := rfl
@[simp] theorem State.modSpan_initial (i : StreamId) (f : SpanState → SpanState) :
    (s.modSpan i f).initial = s.initial := rfl
@[simp] theorem State.modSpan_lines (i : StreamId) (f : SpanState → SpanState) :
    (s.modSpan i f).lines = s.lines := rfl
@[simp] theorem State.modSpan_queue (i : StreamId) (f : SpanState → SpanState) :
    (s.modSpan i f).queue = s.queue := rfl
@[simp] theorem State.modSpan_spi (i : StreamId) (f : SpanState → SpanState) : (s.modSpan i f).spi = s.spi := rfl
@[simp] theorem State.modSpan_timebase (i : StreamId) (f : SpanState → SpanState) :
    (s.modSpan i f).timebase = s.timebase := rfl
@[simp] theorem State.modSpan_porHigh (i : StreamId) (f : SpanState → SpanState) :
    (s.modSpan i f).porHigh = s.porHigh := rfl
@[simp] theorem State.modSpan_csHigh (i : StreamId) (f : SpanState → SpanState) :
    (s.modSpan i f).csHigh = s.csHigh := rfl
@[simp] theorem State.modSpan_choices (i : StreamId) (f : SpanState → SpanState) :
    (s.modSpan i f).choices = s.choices := rfl
@[simp] theorem State.modSpan_pending (i : StreamId) (f : SpanState → SpanState) :
    (s.modSpan i f).pending = s.pending := rfl

@[simp] theorem State.modPort_streams (p : PortId) (f : Port → Port) : (s.modPort p f).streams = s.streams := rfl
@[simp] theorem State.modPort_memory (p : PortId) (f : Port → Port) : (s.modPort p f).memory = s.memory := rfl
@[simp] theorem State.modPort_lastGranted (p : PortId) (f : Port → Port) :
    (s.modPort p f).lastGranted = s.lastGranted := rfl
@[simp] theorem State.modPort_polynomial (p : PortId) (f : Port → Port) :
    (s.modPort p f).polynomial = s.polynomial := rfl
@[simp] theorem State.modPort_initial (p : PortId) (f : Port → Port) : (s.modPort p f).initial = s.initial := rfl
@[simp] theorem State.modPort_lines (p : PortId) (f : Port → Port) : (s.modPort p f).lines = s.lines := rfl
@[simp] theorem State.modPort_queue (p : PortId) (f : Port → Port) : (s.modPort p f).queue = s.queue := rfl
@[simp] theorem State.modPort_spi (p : PortId) (f : Port → Port) : (s.modPort p f).spi = s.spi := rfl
@[simp] theorem State.modPort_timebase (p : PortId) (f : Port → Port) : (s.modPort p f).timebase = s.timebase := rfl
@[simp] theorem State.modPort_porHigh (p : PortId) (f : Port → Port) : (s.modPort p f).porHigh = s.porHigh := rfl
@[simp] theorem State.modPort_csHigh (p : PortId) (f : Port → Port) : (s.modPort p f).csHigh = s.csHigh := rfl
@[simp] theorem State.modPort_choices (p : PortId) (f : Port → Port) : (s.modPort p f).choices = s.choices := rfl
@[simp] theorem State.modPort_pending (p : PortId) (f : Port → Port) : (s.modPort p f).pending = s.pending := rfl

@[simp] theorem State.mapPorts_streams (f : PortId → Port → Port) : (s.mapPorts f).streams = s.streams := rfl
@[simp] theorem State.mapPorts_memory (f : PortId → Port → Port) : (s.mapPorts f).memory = s.memory := rfl
@[simp] theorem State.mapPorts_lastGranted (f : PortId → Port → Port) :
    (s.mapPorts f).lastGranted = s.lastGranted := rfl
@[simp] theorem State.mapPorts_polynomial (f : PortId → Port → Port) : (s.mapPorts f).polynomial = s.polynomial := rfl
@[simp] theorem State.mapPorts_initial (f : PortId → Port → Port) : (s.mapPorts f).initial = s.initial := rfl
@[simp] theorem State.mapPorts_lines (f : PortId → Port → Port) : (s.mapPorts f).lines = s.lines := rfl
@[simp] theorem State.mapPorts_queue (f : PortId → Port → Port) : (s.mapPorts f).queue = s.queue := rfl
@[simp] theorem State.mapPorts_spi (f : PortId → Port → Port) : (s.mapPorts f).spi = s.spi := rfl
@[simp] theorem State.mapPorts_timebase (f : PortId → Port → Port) : (s.mapPorts f).timebase = s.timebase := rfl
@[simp] theorem State.mapPorts_porHigh (f : PortId → Port → Port) : (s.mapPorts f).porHigh = s.porHigh := rfl
@[simp] theorem State.mapPorts_csHigh (f : PortId → Port → Port) : (s.mapPorts f).csHigh = s.csHigh := rfl
@[simp] theorem State.mapPorts_choices (f : PortId → Port → Port) : (s.mapPorts f).choices = s.choices := rfl
@[simp] theorem State.mapPorts_pending (f : PortId → Port → Port) : (s.mapPorts f).pending = s.pending := rfl

@[simp] theorem State.modTxn_streams (p : PortId) (f : Transaction → Transaction) :
    (s.modTxn p f).streams = s.streams := rfl
@[simp] theorem State.modTxn_memory (p : PortId) (f : Transaction → Transaction) :
    (s.modTxn p f).memory = s.memory := rfl
@[simp] theorem State.modTxn_lastGranted (p : PortId) (f : Transaction → Transaction) :
    (s.modTxn p f).lastGranted = s.lastGranted := rfl
@[simp] theorem State.modTxn_polynomial (p : PortId) (f : Transaction → Transaction) :
    (s.modTxn p f).polynomial = s.polynomial := rfl
@[simp] theorem State.modTxn_initial (p : PortId) (f : Transaction → Transaction) :
    (s.modTxn p f).initial = s.initial := rfl
@[simp] theorem State.modTxn_lines (p : PortId) (f : Transaction → Transaction) :
    (s.modTxn p f).lines = s.lines := rfl
@[simp] theorem State.modTxn_queue (p : PortId) (f : Transaction → Transaction) :
    (s.modTxn p f).queue = s.queue := rfl
@[simp] theorem State.modTxn_spi (p : PortId) (f : Transaction → Transaction) : (s.modTxn p f).spi = s.spi := rfl
@[simp] theorem State.modTxn_timebase (p : PortId) (f : Transaction → Transaction) :
    (s.modTxn p f).timebase = s.timebase := rfl
@[simp] theorem State.modTxn_porHigh (p : PortId) (f : Transaction → Transaction) :
    (s.modTxn p f).porHigh = s.porHigh := rfl
@[simp] theorem State.modTxn_csHigh (p : PortId) (f : Transaction → Transaction) :
    (s.modTxn p f).csHigh = s.csHigh := rfl
@[simp] theorem State.modTxn_choices (p : PortId) (f : Transaction → Transaction) :
    (s.modTxn p f).choices = s.choices := rfl
@[simp] theorem State.modTxn_pending (p : PortId) (f : Transaction → Transaction) :
    (s.modTxn p f).pending = s.pending := rfl

@[simp] theorem State.closeSegment_streams (p : PortId) : (s.closeSegment p).streams = s.streams := rfl
@[simp] theorem State.closeSegment_memory (p : PortId) : (s.closeSegment p).memory = s.memory := rfl
@[simp] theorem State.closeSegment_lastGranted (p : PortId) : (s.closeSegment p).lastGranted = s.lastGranted := rfl
@[simp] theorem State.closeSegment_polynomial (p : PortId) : (s.closeSegment p).polynomial = s.polynomial := rfl
@[simp] theorem State.closeSegment_initial (p : PortId) : (s.closeSegment p).initial = s.initial := rfl
@[simp] theorem State.closeSegment_lines (p : PortId) : (s.closeSegment p).lines = s.lines := rfl
@[simp] theorem State.closeSegment_queue (p : PortId) : (s.closeSegment p).queue = s.queue := rfl
@[simp] theorem State.closeSegment_spi (p : PortId) : (s.closeSegment p).spi = s.spi := rfl
@[simp] theorem State.closeSegment_timebase (p : PortId) : (s.closeSegment p).timebase = s.timebase := rfl
@[simp] theorem State.closeSegment_porHigh (p : PortId) : (s.closeSegment p).porHigh = s.porHigh := rfl
@[simp] theorem State.closeSegment_csHigh (p : PortId) : (s.closeSegment p).csHigh = s.csHigh := rfl
@[simp] theorem State.closeSegment_choices (p : PortId) : (s.closeSegment p).choices = s.choices := rfl
@[simp] theorem State.closeSegment_pending (p : PortId) : (s.closeSegment p).pending = s.pending := rfl

@[simp] theorem State.answerBeat_streams (p : PortId) (k : Nat) (r : Response) :
    (s.answerBeat p k r).streams = s.streams := rfl
@[simp] theorem State.answerBeat_memory (p : PortId) (k : Nat) (r : Response) :
    (s.answerBeat p k r).memory = s.memory := rfl
@[simp] theorem State.answerBeat_lastGranted (p : PortId) (k : Nat) (r : Response) :
    (s.answerBeat p k r).lastGranted = s.lastGranted := rfl
@[simp] theorem State.answerBeat_polynomial (p : PortId) (k : Nat) (r : Response) :
    (s.answerBeat p k r).polynomial = s.polynomial := rfl
@[simp] theorem State.answerBeat_initial (p : PortId) (k : Nat) (r : Response) :
    (s.answerBeat p k r).initial = s.initial := rfl
@[simp] theorem State.answerBeat_lines (p : PortId) (k : Nat) (r : Response) :
    (s.answerBeat p k r).lines = s.lines := rfl
@[simp] theorem State.answerBeat_queue (p : PortId) (k : Nat) (r : Response) :
    (s.answerBeat p k r).queue = s.queue := rfl
@[simp] theorem State.answerBeat_spi (p : PortId) (k : Nat) (r : Response) : (s.answerBeat p k r).spi = s.spi := rfl
@[simp] theorem State.answerBeat_timebase (p : PortId) (k : Nat) (r : Response) :
    (s.answerBeat p k r).timebase = s.timebase := rfl
@[simp] theorem State.answerBeat_porHigh (p : PortId) (k : Nat) (r : Response) :
    (s.answerBeat p k r).porHigh = s.porHigh := rfl
@[simp] theorem State.answerBeat_csHigh (p : PortId) (k : Nat) (r : Response) :
    (s.answerBeat p k r).csHigh = s.csHigh := rfl
@[simp] theorem State.answerBeat_choices (p : PortId) (k : Nat) (r : Response) :
    (s.answerBeat p k r).choices = s.choices := rfl
@[simp] theorem State.answerBeat_pending (p : PortId) (k : Nat) (r : Response) :
    (s.answerBeat p k r).pending = s.pending := rfl

@[simp] theorem State.setLine_streams (l : LineId) (x : Line) : (s.setLine l x).streams = s.streams := rfl
@[simp] theorem State.setLine_ports (l : LineId) (x : Line) : (s.setLine l x).ports = s.ports := rfl
@[simp] theorem State.setLine_memory (l : LineId) (x : Line) : (s.setLine l x).memory = s.memory := rfl
@[simp] theorem State.setLine_lastGranted (l : LineId) (x : Line) : (s.setLine l x).lastGranted = s.lastGranted := rfl
@[simp] theorem State.setLine_polynomial (l : LineId) (x : Line) : (s.setLine l x).polynomial = s.polynomial := rfl
@[simp] theorem State.setLine_initial (l : LineId) (x : Line) : (s.setLine l x).initial = s.initial := rfl
@[simp] theorem State.setLine_queue (l : LineId) (x : Line) : (s.setLine l x).queue = s.queue := rfl
@[simp] theorem State.setLine_spi (l : LineId) (x : Line) : (s.setLine l x).spi = s.spi := rfl
@[simp] theorem State.setLine_timebase (l : LineId) (x : Line) : (s.setLine l x).timebase = s.timebase := rfl
@[simp] theorem State.setLine_porHigh (l : LineId) (x : Line) : (s.setLine l x).porHigh = s.porHigh := rfl
@[simp] theorem State.setLine_csHigh (l : LineId) (x : Line) : (s.setLine l x).csHigh = s.csHigh := rfl
@[simp] theorem State.setLine_choices (l : LineId) (x : Line) : (s.setLine l x).choices = s.choices := rfl
@[simp] theorem State.setLine_pending (l : LineId) (x : Line) : (s.setLine l x).pending = s.pending := rfl

@[simp] theorem State.mapLines_streams (f : Line → Line) : (s.mapLines f).streams = s.streams := rfl
@[simp] theorem State.mapLines_ports (f : Line → Line) : (s.mapLines f).ports = s.ports := rfl
@[simp] theorem State.mapLines_memory (f : Line → Line) : (s.mapLines f).memory = s.memory := rfl
@[simp] theorem State.mapLines_lastGranted (f : Line → Line) : (s.mapLines f).lastGranted = s.lastGranted := rfl
@[simp] theorem State.mapLines_polynomial (f : Line → Line) : (s.mapLines f).polynomial = s.polynomial := rfl
@[simp] theorem State.mapLines_initial (f : Line → Line) : (s.mapLines f).initial = s.initial := rfl
@[simp] theorem State.mapLines_queue (f : Line → Line) : (s.mapLines f).queue = s.queue := rfl
@[simp] theorem State.mapLines_spi (f : Line → Line) : (s.mapLines f).spi = s.spi := rfl
@[simp] theorem State.mapLines_timebase (f : Line → Line) : (s.mapLines f).timebase = s.timebase := rfl
@[simp] theorem State.mapLines_porHigh (f : Line → Line) : (s.mapLines f).porHigh = s.porHigh := rfl
@[simp] theorem State.mapLines_csHigh (f : Line → Line) : (s.mapLines f).csHigh = s.csHigh := rfl
@[simp] theorem State.mapLines_choices (f : Line → Line) : (s.mapLines f).choices = s.choices := rfl
@[simp] theorem State.mapLines_pending (f : Line → Line) : (s.mapLines f).pending = s.pending := rfl

@[simp] theorem State.modSpi_streams (f : Management → Management) : (s.modSpi f).streams = s.streams := rfl
@[simp] theorem State.modSpi_ports (f : Management → Management) : (s.modSpi f).ports = s.ports := rfl
@[simp] theorem State.modSpi_memory (f : Management → Management) : (s.modSpi f).memory = s.memory := rfl
@[simp] theorem State.modSpi_lastGranted (f : Management → Management) :
    (s.modSpi f).lastGranted = s.lastGranted := rfl
@[simp] theorem State.modSpi_polynomial (f : Management → Management) : (s.modSpi f).polynomial = s.polynomial := rfl
@[simp] theorem State.modSpi_initial (f : Management → Management) : (s.modSpi f).initial = s.initial := rfl
@[simp] theorem State.modSpi_lines (f : Management → Management) : (s.modSpi f).lines = s.lines := rfl
@[simp] theorem State.modSpi_queue (f : Management → Management) : (s.modSpi f).queue = s.queue := rfl
@[simp] theorem State.modSpi_timebase (f : Management → Management) : (s.modSpi f).timebase = s.timebase := rfl
@[simp] theorem State.modSpi_porHigh (f : Management → Management) : (s.modSpi f).porHigh = s.porHigh := rfl
@[simp] theorem State.modSpi_csHigh (f : Management → Management) : (s.modSpi f).csHigh = s.csHigh := rfl
@[simp] theorem State.modSpi_choices (f : Management → Management) : (s.modSpi f).choices = s.choices := rfl
@[simp] theorem State.modSpi_pending (f : Management → Management) : (s.modSpi f).pending = s.pending := rfl

@[simp] theorem State.post_streams (kind : NoticeKind) (subject : Byte) (side : NoticeSide) (value1 value2 : Word) :
    (s.post kind subject side value1 value2).streams = s.streams := rfl
@[simp] theorem State.post_ports (kind : NoticeKind) (subject : Byte) (side : NoticeSide) (value1 value2 : Word) :
    (s.post kind subject side value1 value2).ports = s.ports := rfl
@[simp] theorem State.post_memory (kind : NoticeKind) (subject : Byte) (side : NoticeSide) (value1 value2 : Word) :
    (s.post kind subject side value1 value2).memory = s.memory := rfl
@[simp] theorem State.post_lastGranted (kind : NoticeKind) (subject : Byte) (side : NoticeSide) (value1 value2 : Word) :
    (s.post kind subject side value1 value2).lastGranted = s.lastGranted := rfl
@[simp] theorem State.post_polynomial (kind : NoticeKind) (subject : Byte) (side : NoticeSide) (value1 value2 : Word) :
    (s.post kind subject side value1 value2).polynomial = s.polynomial := rfl
@[simp] theorem State.post_initial (kind : NoticeKind) (subject : Byte) (side : NoticeSide) (value1 value2 : Word) :
    (s.post kind subject side value1 value2).initial = s.initial := rfl
@[simp] theorem State.post_lines (kind : NoticeKind) (subject : Byte) (side : NoticeSide) (value1 value2 : Word) :
    (s.post kind subject side value1 value2).lines = s.lines := rfl
@[simp] theorem State.post_spi (kind : NoticeKind) (subject : Byte) (side : NoticeSide) (value1 value2 : Word) :
    (s.post kind subject side value1 value2).spi = s.spi := rfl
@[simp] theorem State.post_timebase (kind : NoticeKind) (subject : Byte) (side : NoticeSide) (value1 value2 : Word) :
    (s.post kind subject side value1 value2).timebase = s.timebase := rfl
@[simp] theorem State.post_porHigh (kind : NoticeKind) (subject : Byte) (side : NoticeSide) (value1 value2 : Word) :
    (s.post kind subject side value1 value2).porHigh = s.porHigh := rfl
@[simp] theorem State.post_csHigh (kind : NoticeKind) (subject : Byte) (side : NoticeSide) (value1 value2 : Word) :
    (s.post kind subject side value1 value2).csHigh = s.csHigh := rfl
@[simp] theorem State.post_choices (kind : NoticeKind) (subject : Byte) (side : NoticeSide) (value1 value2 : Word) :
    (s.post kind subject side value1 value2).choices = s.choices := rfl
@[simp] theorem State.post_pending (kind : NoticeKind) (subject : Byte) (side : NoticeSide) (value1 value2 : Word) :
    (s.post kind subject side value1 value2).pending = s.pending := rfl

@[simp] theorem State.paceCount_streams (i : StreamId) (side : Side) : (s.paceCount i side).streams = s.streams := rfl
@[simp] theorem State.paceCount_ports (i : StreamId) (side : Side) : (s.paceCount i side).ports = s.ports := rfl
@[simp] theorem State.paceCount_memory (i : StreamId) (side : Side) : (s.paceCount i side).memory = s.memory := rfl
@[simp] theorem State.paceCount_lastGranted (i : StreamId) (side : Side) :
    (s.paceCount i side).lastGranted = s.lastGranted := rfl
@[simp] theorem State.paceCount_polynomial (i : StreamId) (side : Side) :
    (s.paceCount i side).polynomial = s.polynomial := rfl
@[simp] theorem State.paceCount_initial (i : StreamId) (side : Side) : (s.paceCount i side).initial = s.initial := rfl
@[simp] theorem State.paceCount_queue (i : StreamId) (side : Side) : (s.paceCount i side).queue = s.queue := rfl
@[simp] theorem State.paceCount_spi (i : StreamId) (side : Side) : (s.paceCount i side).spi = s.spi := rfl
@[simp] theorem State.paceCount_timebase (i : StreamId) (side : Side) :
    (s.paceCount i side).timebase = s.timebase := rfl
@[simp] theorem State.paceCount_porHigh (i : StreamId) (side : Side) : (s.paceCount i side).porHigh = s.porHigh := rfl
@[simp] theorem State.paceCount_csHigh (i : StreamId) (side : Side) : (s.paceCount i side).csHigh = s.csHigh := rfl
@[simp] theorem State.paceCount_choices (i : StreamId) (side : Side) : (s.paceCount i side).choices = s.choices := rfl
@[simp] theorem State.paceCount_pending (i : StreamId) (side : Side) : (s.paceCount i side).pending = s.pending := rfl

@[simp] theorem State.paceTest_streams (i : StreamId) : (s.paceTest i).streams = s.streams := rfl
@[simp] theorem State.paceTest_ports (i : StreamId) : (s.paceTest i).ports = s.ports := rfl
@[simp] theorem State.paceTest_memory (i : StreamId) : (s.paceTest i).memory = s.memory := rfl
@[simp] theorem State.paceTest_lastGranted (i : StreamId) :
    (s.paceTest i).lastGranted = s.lastGranted := rfl
@[simp] theorem State.paceTest_polynomial (i : StreamId) :
    (s.paceTest i).polynomial = s.polynomial := rfl
@[simp] theorem State.paceTest_initial (i : StreamId) : (s.paceTest i).initial = s.initial := rfl
@[simp] theorem State.paceTest_queue (i : StreamId) : (s.paceTest i).queue = s.queue := rfl
@[simp] theorem State.paceTest_spi (i : StreamId) : (s.paceTest i).spi = s.spi := rfl
@[simp] theorem State.paceTest_timebase (i : StreamId) : (s.paceTest i).timebase = s.timebase := rfl
@[simp] theorem State.paceTest_porHigh (i : StreamId) : (s.paceTest i).porHigh = s.porHigh := rfl
@[simp] theorem State.paceTest_csHigh (i : StreamId) : (s.paceTest i).csHigh = s.csHigh := rfl
@[simp] theorem State.paceTest_choices (i : StreamId) : (s.paceTest i).choices = s.choices := rfl
@[simp] theorem State.paceTest_pending (i : StreamId) : (s.paceTest i).pending = s.pending := rfl

@[simp] theorem State.paceFrameStart_streams (i : StreamId) (side : Side) :
    (s.paceFrameStart i side).streams = s.streams := rfl
@[simp] theorem State.paceFrameStart_ports (i : StreamId) (side : Side) :
    (s.paceFrameStart i side).ports = s.ports := rfl
@[simp] theorem State.paceFrameStart_memory (i : StreamId) (side : Side) :
    (s.paceFrameStart i side).memory = s.memory := rfl
@[simp] theorem State.paceFrameStart_lastGranted (i : StreamId) (side : Side) :
    (s.paceFrameStart i side).lastGranted = s.lastGranted := rfl
@[simp] theorem State.paceFrameStart_polynomial (i : StreamId) (side : Side) :
    (s.paceFrameStart i side).polynomial = s.polynomial := rfl
@[simp] theorem State.paceFrameStart_initial (i : StreamId) (side : Side) :
    (s.paceFrameStart i side).initial = s.initial := rfl
@[simp] theorem State.paceFrameStart_queue (i : StreamId) (side : Side) :
    (s.paceFrameStart i side).queue = s.queue := rfl
@[simp] theorem State.paceFrameStart_spi (i : StreamId) (side : Side) : (s.paceFrameStart i side).spi = s.spi := rfl
@[simp] theorem State.paceFrameStart_timebase (i : StreamId) (side : Side) :
    (s.paceFrameStart i side).timebase = s.timebase := rfl
@[simp] theorem State.paceFrameStart_porHigh (i : StreamId) (side : Side) :
    (s.paceFrameStart i side).porHigh = s.porHigh := rfl
@[simp] theorem State.paceFrameStart_csHigh (i : StreamId) (side : Side) :
    (s.paceFrameStart i side).csHigh = s.csHigh := rfl
@[simp] theorem State.paceFrameStart_choices (i : StreamId) (side : Side) :
    (s.paceFrameStart i side).choices = s.choices := rfl
@[simp] theorem State.paceFrameStart_pending (i : StreamId) (side : Side) :
    (s.paceFrameStart i side).pending = s.pending := rfl

@[simp] theorem State.paceDrop_streams (i : StreamId) (side : Side) : (s.paceDrop i side).streams = s.streams := rfl
@[simp] theorem State.paceDrop_ports (i : StreamId) (side : Side) : (s.paceDrop i side).ports = s.ports := rfl
@[simp] theorem State.paceDrop_memory (i : StreamId) (side : Side) : (s.paceDrop i side).memory = s.memory := rfl
@[simp] theorem State.paceDrop_lastGranted (i : StreamId) (side : Side) :
    (s.paceDrop i side).lastGranted = s.lastGranted := rfl
@[simp] theorem State.paceDrop_polynomial (i : StreamId) (side : Side) :
    (s.paceDrop i side).polynomial = s.polynomial := rfl
@[simp] theorem State.paceDrop_initial (i : StreamId) (side : Side) : (s.paceDrop i side).initial = s.initial := rfl
@[simp] theorem State.paceDrop_queue (i : StreamId) (side : Side) : (s.paceDrop i side).queue = s.queue := rfl
@[simp] theorem State.paceDrop_spi (i : StreamId) (side : Side) : (s.paceDrop i side).spi = s.spi := rfl
@[simp] theorem State.paceDrop_timebase (i : StreamId) (side : Side) :
    (s.paceDrop i side).timebase = s.timebase := rfl
@[simp] theorem State.paceDrop_porHigh (i : StreamId) (side : Side) : (s.paceDrop i side).porHigh = s.porHigh := rfl
@[simp] theorem State.paceDrop_csHigh (i : StreamId) (side : Side) : (s.paceDrop i side).csHigh = s.csHigh := rfl
@[simp] theorem State.paceDrop_choices (i : StreamId) (side : Side) : (s.paceDrop i side).choices = s.choices := rfl
@[simp] theorem State.paceDrop_pending (i : StreamId) (side : Side) : (s.paceDrop i side).pending = s.pending := rfl

@[simp] theorem State.paceUnbind_streams (i : StreamId) : (s.paceUnbind i).streams = s.streams := rfl
@[simp] theorem State.paceUnbind_ports (i : StreamId) : (s.paceUnbind i).ports = s.ports := rfl
@[simp] theorem State.paceUnbind_memory (i : StreamId) : (s.paceUnbind i).memory = s.memory := rfl
@[simp] theorem State.paceUnbind_lastGranted (i : StreamId) : (s.paceUnbind i).lastGranted = s.lastGranted := rfl
@[simp] theorem State.paceUnbind_polynomial (i : StreamId) : (s.paceUnbind i).polynomial = s.polynomial := rfl
@[simp] theorem State.paceUnbind_initial (i : StreamId) : (s.paceUnbind i).initial = s.initial := rfl
@[simp] theorem State.paceUnbind_queue (i : StreamId) : (s.paceUnbind i).queue = s.queue := rfl
@[simp] theorem State.paceUnbind_spi (i : StreamId) : (s.paceUnbind i).spi = s.spi := rfl
@[simp] theorem State.paceUnbind_timebase (i : StreamId) : (s.paceUnbind i).timebase = s.timebase := rfl
@[simp] theorem State.paceUnbind_porHigh (i : StreamId) : (s.paceUnbind i).porHigh = s.porHigh := rfl
@[simp] theorem State.paceUnbind_csHigh (i : StreamId) : (s.paceUnbind i).csHigh = s.csHigh := rfl
@[simp] theorem State.paceUnbind_choices (i : StreamId) : (s.paceUnbind i).choices = s.choices := rfl
@[simp] theorem State.paceUnbind_pending (i : StreamId) : (s.paceUnbind i).pending = s.pending := rfl

/-! ## Records read through updates of other records -/

@[simp] theorem State.modStream_port (i : StreamId) (f : Stream → Stream) (q : PortId) :
    (s.modStream i f).port q = s.port q := rfl
@[simp] theorem State.modStream_line (i : StreamId) (f : Stream → Stream) (m : LineId) :
    (s.modStream i f).line m = s.line m := rfl

@[simp] theorem State.mapStreams_port (f : Stream → Stream) (q : PortId) : (s.mapStreams f).port q = s.port q := rfl
@[simp] theorem State.mapStreams_line (f : Stream → Stream) (m : LineId) : (s.mapStreams f).line m = s.line m := rfl

@[simp] theorem State.modProducer_port (i : StreamId) (f : ProducerSide → ProducerSide) (q : PortId) :
    (s.modProducer i f).port q = s.port q := rfl
@[simp] theorem State.modProducer_line (i : StreamId) (f : ProducerSide → ProducerSide) (m : LineId) :
    (s.modProducer i f).line m = s.line m := rfl

@[simp] theorem State.modConsumer_port (i : StreamId) (f : ConsumerSide → ConsumerSide) (q : PortId) :
    (s.modConsumer i f).port q = s.port q := rfl
@[simp] theorem State.modConsumer_line (i : StreamId) (f : ConsumerSide → ConsumerSide) (m : LineId) :
    (s.modConsumer i f).line m = s.line m := rfl

@[simp] theorem State.count_port (i : StreamId) (f : Counters → Counters) (q : PortId) :
    (s.count i f).port q = s.port q := rfl
@[simp] theorem State.count_line (i : StreamId) (f : Counters → Counters) (m : LineId) :
    (s.count i f).line m = s.line m := rfl

@[simp] theorem State.modSpan_port (i : StreamId) (f : SpanState → SpanState) (q : PortId) :
    (s.modSpan i f).port q = s.port q := rfl
@[simp] theorem State.modSpan_line (i : StreamId) (f : SpanState → SpanState) (m : LineId) :
    (s.modSpan i f).line m = s.line m := rfl

@[simp] theorem State.modPort_stream (p : PortId) (f : Port → Port) (j : StreamId) :
    (s.modPort p f).stream j = s.stream j := rfl
@[simp] theorem State.modPort_line (p : PortId) (f : Port → Port) (m : LineId) :
    (s.modPort p f).line m = s.line m := rfl

@[simp] theorem State.mapPorts_stream (f : PortId → Port → Port) (j : StreamId) :
    (s.mapPorts f).stream j = s.stream j := rfl
@[simp] theorem State.mapPorts_line (f : PortId → Port → Port) (m : LineId) : (s.mapPorts f).line m = s.line m := rfl

@[simp] theorem State.modTxn_stream (p : PortId) (f : Transaction → Transaction) (j : StreamId) :
    (s.modTxn p f).stream j = s.stream j := rfl
@[simp] theorem State.modTxn_line (p : PortId) (f : Transaction → Transaction) (m : LineId) :
    (s.modTxn p f).line m = s.line m := rfl

@[simp] theorem State.closeSegment_stream (p : PortId) (j : StreamId) :
    (s.closeSegment p).stream j = s.stream j := rfl
@[simp] theorem State.closeSegment_line (p : PortId) (m : LineId) : (s.closeSegment p).line m = s.line m := rfl

@[simp] theorem State.answerBeat_stream (p : PortId) (k : Nat) (r : Response) (j : StreamId) :
    (s.answerBeat p k r).stream j = s.stream j := rfl
@[simp] theorem State.answerBeat_line (p : PortId) (k : Nat) (r : Response) (m : LineId) :
    (s.answerBeat p k r).line m = s.line m := rfl

@[simp] theorem State.setLine_stream (l : LineId) (x : Line) (j : StreamId) :
    (s.setLine l x).stream j = s.stream j := rfl
@[simp] theorem State.setLine_port (l : LineId) (x : Line) (q : PortId) : (s.setLine l x).port q = s.port q := rfl

@[simp] theorem State.mapLines_stream (f : Line → Line) (j : StreamId) : (s.mapLines f).stream j = s.stream j := rfl
@[simp] theorem State.mapLines_port (f : Line → Line) (q : PortId) : (s.mapLines f).port q = s.port q := rfl

@[simp] theorem State.modSpi_stream (f : Management → Management) (j : StreamId) :
    (s.modSpi f).stream j = s.stream j := rfl
@[simp] theorem State.modSpi_port (f : Management → Management) (q : PortId) : (s.modSpi f).port q = s.port q := rfl
@[simp] theorem State.modSpi_line (f : Management → Management) (m : LineId) : (s.modSpi f).line m = s.line m := rfl

@[simp] theorem State.post_stream (kind : NoticeKind) (subject : Byte) (side : NoticeSide) (value1 value2 : Word) (j : StreamId) :
    (s.post kind subject side value1 value2).stream j = s.stream j := rfl
@[simp] theorem State.post_port (kind : NoticeKind) (subject : Byte) (side : NoticeSide) (value1 value2 : Word) (q : PortId) :
    (s.post kind subject side value1 value2).port q = s.port q := rfl
@[simp] theorem State.post_line (kind : NoticeKind) (subject : Byte) (side : NoticeSide) (value1 value2 : Word) (m : LineId) :
    (s.post kind subject side value1 value2).line m = s.line m := rfl

@[simp] theorem State.paceCount_stream (i : StreamId) (side : Side) (j : StreamId) :
    (s.paceCount i side).stream j = s.stream j := rfl
@[simp] theorem State.paceCount_port (i : StreamId) (side : Side) (q : PortId) :
    (s.paceCount i side).port q = s.port q := rfl

@[simp] theorem State.paceTest_stream (i : StreamId) (j : StreamId) :
    (s.paceTest i).stream j = s.stream j := rfl
@[simp] theorem State.paceTest_port (i : StreamId) (q : PortId) :
    (s.paceTest i).port q = s.port q := rfl

@[simp] theorem State.paceFrameStart_stream (i : StreamId) (side : Side) (j : StreamId) :
    (s.paceFrameStart i side).stream j = s.stream j := rfl
@[simp] theorem State.paceFrameStart_port (i : StreamId) (side : Side) (q : PortId) :
    (s.paceFrameStart i side).port q = s.port q := rfl

@[simp] theorem State.paceDrop_stream (i : StreamId) (side : Side) (j : StreamId) :
    (s.paceDrop i side).stream j = s.stream j := rfl
@[simp] theorem State.paceDrop_port (i : StreamId) (side : Side) (q : PortId) :
    (s.paceDrop i side).port q = s.port q := rfl

@[simp] theorem State.paceUnbind_stream (i : StreamId) (j : StreamId) : (s.paceUnbind i).stream j = s.stream j := rfl
@[simp] theorem State.paceUnbind_port (i : StreamId) (q : PortId) : (s.paceUnbind i).port q = s.port q := rfl

/-! ## A record after its own update -/

@[simp] theorem State.stream_modStream_self (i : StreamId) (f : Stream → Stream) :
    (s.modStream i f).stream i = f (s.stream i) := by
  simp [State.stream, State.modStream]

@[simp] theorem State.stream_modStream_ne {i j : StreamId} (h : j ≠ i) (f : Stream → Stream) :
    (s.modStream i f).stream j = s.stream j := by
  have hv : i.val ≠ j.val := fun e => h (Fin.ext e.symm)
  simp [State.stream, State.modStream, hv]

@[simp] theorem State.port_modPort_self (p : PortId) (f : Port → Port) : (s.modPort p f).port p = f (s.port p) := by
  simp [State.port, State.modPort]

@[simp] theorem State.port_modPort_ne {p q : PortId} (h : q ≠ p) (f : Port → Port) :
    (s.modPort p f).port q = s.port q := by
  have hv : p.val ≠ q.val := fun e => h (Fin.ext e.symm)
  simp [State.port, State.modPort, hv]

@[simp] theorem State.line_setLine_self (l : LineId) (x : Line) : (s.setLine l x).line l = x := by
  simp [State.line, State.setLine]

@[simp] theorem State.line_setLine_ne {l m : LineId} (h : m ≠ l) (x : Line) : (s.setLine l x).line m = s.line m := by
  have hv : l.val ≠ m.val := fun e => h (Fin.ext e.symm)
  simp [State.line, State.setLine, hv]

@[simp] theorem State.stream_modProducer_self (i : StreamId) (f : ProducerSide → ProducerSide) :
    (s.modProducer i f).stream i = { s.stream i with producer := f (s.stream i).producer } := by
  simp [State.modProducer]

@[simp] theorem State.stream_modProducer_ne {i j : StreamId} (h : j ≠ i) (f : ProducerSide → ProducerSide) :
    (s.modProducer i f).stream j = s.stream j := by
  simp [State.modProducer, h]

@[simp] theorem State.stream_modConsumer_self (i : StreamId) (f : ConsumerSide → ConsumerSide) :
    (s.modConsumer i f).stream i = { s.stream i with consumer := f (s.stream i).consumer } := by
  simp [State.modConsumer]

@[simp] theorem State.stream_modConsumer_ne {i j : StreamId} (h : j ≠ i) (f : ConsumerSide → ConsumerSide) :
    (s.modConsumer i f).stream j = s.stream j := by
  simp [State.modConsumer, h]

@[simp] theorem State.stream_count_self (i : StreamId) (f : Counters → Counters) :
    (s.count i f).stream i = { s.stream i with counters := f (s.stream i).counters } := by
  simp [State.count]

@[simp] theorem State.stream_count_ne {i j : StreamId} (h : j ≠ i) (f : Counters → Counters) :
    (s.count i f).stream j = s.stream j := by
  simp [State.count, h]

@[simp] theorem State.stream_modSpan_self (i : StreamId) (f : SpanState → SpanState) :
    (s.modSpan i f).stream i = { s.stream i with span := (s.stream i).span.map f } := by
  simp [State.modSpan]

@[simp] theorem State.stream_modSpan_ne {i j : StreamId} (h : j ≠ i) (f : SpanState → SpanState) :
    (s.modSpan i f).stream j = s.stream j := by
  simp [State.modSpan, h]

@[simp] theorem State.port_modTxn_self (p : PortId) (f : Transaction → Transaction) :
    (s.modTxn p f).port p = { s.port p with txn := (s.port p).txn.map f } := by
  simp [State.modTxn]

@[simp] theorem State.port_modTxn_ne {p q : PortId} (h : q ≠ p) (f : Transaction → Transaction) :
    (s.modTxn p f).port q = s.port q := by
  simp [State.modTxn, h]

@[simp] theorem State.port_closeSegment_self (p : PortId) :
    (s.closeSegment p).port p = { s.port p with newestOpen := false } := by
  simp [State.closeSegment]

@[simp] theorem State.port_closeSegment_ne {p q : PortId} (h : q ≠ p) : (s.closeSegment p).port q = s.port q := by
  simp [State.closeSegment, h]

@[simp] theorem State.stream_mapStreams (f : Stream → Stream) (i : StreamId) :
    (s.mapStreams f).stream i = f (s.stream i) := by
  fin_cases i <;> rfl

@[simp] theorem State.port_mapPorts (f : PortId → Port → Port) (p : PortId) :
    (s.mapPorts f).port p = f p (s.port p) := by
  fin_cases p <;> rfl

@[simp] theorem State.line_mapLines (f : Line → Line) (l : LineId) : (s.mapLines f).line l = f (s.line l) := by
  fin_cases l <;> rfl

@[simp] theorem State.modSpi_spi (f : Management → Management) : (s.modSpi f).spi = f s.spi := rfl

@[simp] theorem State.post_queue (kind : NoticeKind) (subject : Byte) (side : NoticeSide) (value1 value2 : Word) :
    (s.post kind subject side value1 value2).queue = s.queue.post kind subject side value1 value2 := rfl

/-! ## Two states with equal records are equal -/

/-- A vector of stream records is known by reading each stream. -/
theorem State.streams_ext {s t : State} (h : ∀ i : StreamId, s.stream i = t.stream i) : s.streams = t.streams := by
  ext1 i hi
  exact h ⟨i, hi⟩

/-- A vector of port records is known by reading each port. -/
theorem State.ports_ext {s t : State} (h : ∀ p : PortId, s.port p = t.port p) : s.ports = t.ports := by
  ext1 i hi
  exact h ⟨i, hi⟩

/-- A vector of line records is known by reading each line. -/
theorem State.lines_ext {s t : State} (h : ∀ l : LineId, s.line l = t.line l) : s.lines = t.lines := by
  ext1 i hi
  exact h ⟨i, hi⟩

/-- An update that leaves a stream's record as it is leaves the state as it is. -/
theorem State.modStream_id {s : State} {i : StreamId} {f : Stream → Stream} (h : f (s.stream i) = s.stream i) :
    s.modStream i f = s := by
  have hs : (s.modStream i f).streams = s.streams := State.streams_ext fun j => by
    by_cases hj : j = i
    · subst hj; simp [h]
    · simp [hj]
  cases s; simpa [State.modStream] using hs

/-- An update that leaves a port's record as it is leaves the state as it is. -/
theorem State.modPort_id {s : State} {p : PortId} {f : Port → Port} (h : f (s.port p) = s.port p) :
    s.modPort p f = s := by
  have hs : (s.modPort p f).ports = s.ports := State.ports_ext fun q => by
    by_cases hq : q = p
    · subst hq; simp [h]
    · simp [hq]
  cases s; simpa [State.modPort] using hs

/-- An update of every port that leaves each record as it is leaves the state as it is. -/
theorem State.mapPorts_id {s : State} {f : PortId → Port → Port} (h : ∀ p : PortId, f p (s.port p) = s.port p) :
    s.mapPorts f = s := by
  have hs : (s.mapPorts f).ports = s.ports := State.ports_ext fun q => by simp [h]
  cases s; simpa [State.mapPorts] using hs

/-- An update of every line that leaves each record as it is leaves the state as it is. -/
theorem State.mapLines_id {s : State} {f : Line → Line} (h : ∀ l : LineId, f (s.line l) = s.line l) :
    s.mapLines f = s := by
  have hs : (s.mapLines f).lines = s.lines := State.lines_ext fun q => by simp [h]
  cases s; simpa [State.mapLines] using hs

end Sys2Proof.Machine
end

