-- ==== Sys2Proof/Laws/Quiet.lean ====
section
/-! SUPPORT. What no operation of the streams, the ports and the memory port touches: the queue of waiting commands, the
management port, the timebase, the levels of PORn and CSn, and the Span Check Unit's two values. -/

namespace Sys2Proof.Machine

open Sys2Proof

/-- The part of the state that only commands, resets and ticks change. -/
def State.quiet (s : State) : List Instr × Management × Timebase × Bool × Bool × Word × Word :=
  (s.pending, s.spi, s.timebase, s.porHigh, s.csHigh, s.polynomial, s.initial)

variable (s : State)

/-! ## Single updates -/

@[simp] theorem State.modStream_quiet (i : StreamId) (f : Stream → Stream) : (s.modStream i f).quiet = s.quiet := rfl
@[simp] theorem State.mapStreams_quiet (f : Stream → Stream) : (s.mapStreams f).quiet = s.quiet := rfl
@[simp] theorem State.modProducer_quiet (i : StreamId) (f : ProducerSide → ProducerSide) :
    (s.modProducer i f).quiet = s.quiet := rfl
@[simp] theorem State.modConsumer_quiet (i : StreamId) (f : ConsumerSide → ConsumerSide) :
    (s.modConsumer i f).quiet = s.quiet := rfl
@[simp] theorem State.count_quiet (i : StreamId) (f : Counters → Counters) : (s.count i f).quiet = s.quiet := rfl
@[simp] theorem State.modSpan_quiet (i : StreamId) (f : SpanState → SpanState) :
    (s.modSpan i f).quiet = s.quiet := rfl
@[simp] theorem State.modPort_quiet (p : PortId) (f : Port → Port) : (s.modPort p f).quiet = s.quiet := rfl
@[simp] theorem State.mapPorts_quiet (f : PortId → Port → Port) : (s.mapPorts f).quiet = s.quiet := rfl
@[simp] theorem State.modTxn_quiet (p : PortId) (f : Transaction → Transaction) :
    (s.modTxn p f).quiet = s.quiet := rfl
@[simp] theorem State.closeSegment_quiet (p : PortId) : (s.closeSegment p).quiet = s.quiet := rfl
@[simp] theorem State.answerBeat_quiet (p : PortId) (k : Nat) (r : Response) :
    (s.answerBeat p k r).quiet = s.quiet := rfl
@[simp] theorem State.setLine_quiet (l : LineId) (x : Line) : (s.setLine l x).quiet = s.quiet := rfl
@[simp] theorem State.mapLines_quiet (f : Line → Line) : (s.mapLines f).quiet = s.quiet := rfl
@[simp] theorem State.post_quiet (kind : NoticeKind) (subject : Byte) (side : NoticeSide) (value1 value2 : Word) :
    (s.post kind subject side value1 value2).quiet = s.quiet := rfl
@[simp] theorem State.paceCount_quiet (i : StreamId) (side : Side) : (s.paceCount i side).quiet = s.quiet := rfl
@[simp] theorem State.paceTest_quiet (i : StreamId) : (s.paceTest i).quiet = s.quiet := rfl
@[simp] theorem State.paceFrameStart_quiet (i : StreamId) (side : Side) :
    (s.paceFrameStart i side).quiet = s.quiet := rfl
@[simp] theorem State.paceDrop_quiet (i : StreamId) (side : Side) : (s.paceDrop i side).quiet = s.quiet := rfl
@[simp] theorem State.paceUnbind_quiet (i : StreamId) : (s.paceUnbind i).quiet = s.quiet := rfl
@[simp] theorem State.spanProducerStart_quiet (i : StreamId) : (s.spanProducerStart i).quiet = s.quiet := rfl
@[simp] theorem State.spanProducerBeat_quiet (i : StreamId) (slot : Nat) (data : Word) (last : Bool) :
    (s.spanProducerBeat i slot data last).quiet = s.quiet := rfl
@[simp] theorem State.spanProducerAbandon_quiet (i : StreamId) (keep : Nat) :
    (s.spanProducerAbandon i keep).quiet = s.quiet := rfl
@[simp] theorem State.spanCommit_quiet (i : StreamId) : (s.spanCommit i).quiet = s.quiet := rfl
@[simp] theorem State.spanConsumerStart_quiet (i : StreamId) : (s.spanConsumerStart i).quiet = s.quiet := rfl
@[simp] theorem State.spanConsumerBeat_quiet (i : StreamId) (data : Word) (newest : Bool) :
    (s.spanConsumerBeat i data newest).quiet = s.quiet := rfl
@[simp] theorem State.spanConsumerError_quiet (i : StreamId) (newest : Bool) :
    (s.spanConsumerError i newest).quiet = s.quiet := rfl
@[simp] theorem State.spanConsumerAbandon_quiet (i : StreamId) : (s.spanConsumerAbandon i).quiet = s.quiet := rfl
@[simp] theorem State.setProducerPhase_quiet (i : StreamId) (ph : ProducerPhase) :
    (s.setProducerPhase i ph).quiet = s.quiet := rfl
@[simp] theorem State.setConsumerPhase_quiet (i : StreamId) (ph : ConsumerPhase) :
    (s.setConsumerPhase i ph).quiet = s.quiet := rfl
@[simp] theorem State.beginHold_quiet (p : PortId) (limit : Nat) (data : Word) :
    (s.beginHold p limit data).quiet = s.quiet := rfl
@[simp] theorem State.endHold_quiet (p : PortId) : (s.endHold p).quiet = s.quiet := rfl
@[simp] theorem State.absorbFrame_quiet (i : StreamId) (p : PortId) : (s.absorbFrame i p).quiet = s.quiet := rfl
@[simp] theorem State.overrunFrame_quiet (i : StreamId) (p : PortId) : (s.overrunFrame i p).quiet = s.quiet := rfl
@[simp] theorem State.beginOverrun_quiet (i : StreamId) (p : PortId) : (s.beginOverrun i p).quiet = s.quiet := rfl
@[simp] theorem State.stallFrame_quiet (i : StreamId) (p : PortId) (data : Word) :
    (s.stallFrame i p data).quiet = s.quiet := rfl
@[simp] theorem State.abandonProducer_quiet (i : StreamId) (p : PortId) (keep : Nat) :
    (s.abandonProducer i p keep).quiet = s.quiet := rfl
@[simp] theorem State.producerLoss_quiet (i : StreamId) (reason : Word) :
    (s.producerLoss i reason).quiet = s.quiet := rfl
@[simp] theorem State.beginUnderrun_quiet (i : StreamId) : (s.beginUnderrun i).quiet = s.quiet := rfl
@[simp] theorem State.waitFrame_quiet (i : StreamId) (p : PortId) : (s.waitFrame i p).quiet = s.quiet := rfl
@[simp] theorem State.deferFrame_quiet (p : PortId) : (s.deferFrame p).quiet = s.quiet := rfl
@[simp] theorem State.abandonReal_quiet (i : StreamId) : (s.abandonReal i).quiet = s.quiet := rfl
@[simp] theorem State.consumerLoss_quiet (i : StreamId) (reason : Word) :
    (s.consumerLoss i reason).quiet = s.quiet := rfl
@[simp] theorem State.becomeClosed_quiet (i : StreamId) : (s.becomeClosed i).quiet = s.quiet := rfl
@[simp] theorem State.memfault_quiet (i : StreamId) (side : NoticeSide) (frame : Word) :
    (s.memfault i side frame).quiet = s.quiet := rfl
@[simp] theorem State.grant_quiet (p : PortId) (g : Segment) (rest : List Segment) :
    (s.grant p g rest).quiet = s.quiet := rfl

/-! ## Operations with cases -/

@[simp] theorem State.grantFirst_quiet (ps : List PortId) : (s.grantFirst ps).quiet = s.quiet := by
  induction ps with
  | nil => rfl
  | cons p ps ih =>
    rw [State.grantFirst]
    split
    · exact ih
    · simp

@[simp] theorem State.arbitrate_quiet : s.arbitrate.quiet = s.quiet := by
  unfold State.arbitrate
  split <;> simp

@[simp] theorem State.freeMemory_quiet : s.freeMemory.quiet = s.quiet := by
  unfold State.freeMemory
  rw [State.arbitrate_quiet]
  rfl

@[simp] theorem State.forward_quiet (p : PortId) (kind : SegmentKind) (dir : Dir) (addr : Word) (b : Binding) (beat : SegmentBeat) :
    (s.forward p kind dir addr b beat).quiet = s.quiet := by
  unfold State.forward
  simp

@[simp] theorem State.forwardWhole_quiet (p : PortId) (g : Segment) : (s.forwardWhole p g).quiet = s.quiet := by
  unfold State.forwardWhole
  simp

@[simp] theorem State.forwardPlaced_quiet (i : StreamId) (p : PortId) (k : Nat) (data : Word) (offset : Nat) :
    (s.forwardPlaced i p k data offset).quiet = s.quiet := by
  unfold State.forwardPlaced
  try dsimp only
  (repeat' split) <;> simp

@[simp] theorem State.enterFrame_quiet (i : StreamId) : (s.enterFrame i).quiet = s.quiet := by
  unfold State.enterFrame
  simp

@[simp] theorem State.startPlaced_quiet (i : StreamId) (p : PortId) (k : Nat) (data : Word) :
    (s.startPlaced i p k data).quiet = s.quiet := by
  unfold State.startPlaced
  simp

@[simp] theorem State.placeFrame_quiet (i : StreamId) (p : PortId) (k : Nat) (data : Word) :
    (s.placeFrame i p k data).quiet = s.quiet := by
  unfold State.placeFrame
  simp

@[simp] theorem State.excessFrame_quiet (i : StreamId) (p : PortId) : (s.excessFrame i p).quiet = s.quiet := by
  unfold State.excessFrame
  dsimp only
  (repeat' split) <;> simp

@[simp] theorem State.resumeOverrun_quiet (i : StreamId) (p : PortId) (k : Nat) (data : Word) :
    (s.resumeOverrun i p k data).quiet = s.quiet := by
  unfold State.resumeOverrun
  simp

@[simp] theorem State.roomEvent_quiet (i : StreamId) : (s.roomEvent i).quiet = s.quiet := by
  unfold State.roomEvent
  try dsimp only
  (repeat' split) <;> simp

@[simp] theorem State.producerFrameStart_quiet (i : StreamId) (p : PortId) (k : Nat) (data : Word) :
    (s.producerFrameStart i p k data).quiet = s.quiet := by
  unfold State.producerFrameStart
  try dsimp only
  (repeat' split) <;> simp

@[simp] theorem State.endProducerFrame_quiet (i : StreamId) (p : PortId) :
    (s.endProducerFrame i p).quiet = s.quiet := by
  unfold State.endProducerFrame
  try dsimp only
  (repeat' split) <;> simp

@[simp] theorem State.losePlacement_quiet (i : StreamId) (p : PortId) (reason : Word) :
    (s.losePlacement i p reason).quiet = s.quiet := by
  unfold State.losePlacement
  simp

@[simp] theorem State.earlyFrame_quiet (i : StreamId) (p : PortId) (k : Nat) (data : Word) :
    (s.earlyFrame i p k data).quiet = s.quiet := by
  unfold State.earlyFrame
  simp

@[simp] theorem State.continueProducer_quiet (i : StreamId) (p : PortId) (k : Nat) (data : Word) (offset : Nat) :
    (s.continueProducer i p k data offset).quiet = s.quiet := by
  unfold State.continueProducer
  try dsimp only
  (repeat' split) <;> simp

@[simp] theorem State.forwardReal_quiet (i : StreamId) (p : PortId) (k : Nat) (offset : Nat) :
    (s.forwardReal i p k offset).quiet = s.quiet := by
  unfold State.forwardReal
  try dsimp only
  (repeat' split) <;> simp

@[simp] theorem State.startReal_quiet (i : StreamId) (p : PortId) (k : Nat) :
    (s.startReal i p k).quiet = s.quiet := by
  unfold State.startReal
  simp

@[simp] theorem State.fillBeat_quiet (i : StreamId) (p : PortId) (k : Nat) (offset : Nat) :
    (s.fillBeat i p k offset).quiet = s.quiet := by
  unfold State.fillBeat
  try dsimp only
  (repeat' split) <;> simp

@[simp] theorem State.fillFrame_quiet (i : StreamId) (p : PortId) (k : Nat) :
    (s.fillFrame i p k).quiet = s.quiet := by
  unfold State.fillFrame
  simp

@[simp] theorem State.releaseHeldSlot_quiet (i : StreamId) : (s.releaseHeldSlot i).quiet = s.quiet := by
  unfold State.releaseHeldSlot
  try dsimp only
  (repeat' split) <;> simp

@[simp] theorem State.resumeUnderrun_quiet (i : StreamId) (p : PortId) (k : Nat) :
    (s.resumeUnderrun i p k).quiet = s.quiet := by
  unfold State.resumeUnderrun
  simp

@[simp] theorem State.consumerFrameStart_quiet (i : StreamId) (p : PortId) (k : Nat) :
    (s.consumerFrameStart i p k).quiet = s.quiet := by
  unfold State.consumerFrameStart
  try dsimp only
  (repeat' split) <;> simp

@[simp] theorem State.decideDeferred_quiet (i : StreamId) : (s.decideDeferred i).quiet = s.quiet := by
  unfold State.decideDeferred
  try dsimp only
  (repeat' split) <;> simp

@[simp] theorem State.releaseWaiting_quiet (i : StreamId) : (s.releaseWaiting i).quiet = s.quiet := by
  unfold State.releaseWaiting
  try dsimp only
  (repeat' split) <;> simp

@[simp] theorem State.commitReachesConsumer_quiet (i : StreamId) : (s.commitReachesConsumer i).quiet = s.quiet := by
  unfold State.commitReachesConsumer
  try dsimp only
  (repeat' split) <;> simp

@[simp] theorem State.endConsumerFrame_quiet (i : StreamId) : (s.endConsumerFrame i).quiet = s.quiet := by
  unfold State.endConsumerFrame
  try dsimp only
  (repeat' split) <;> simp

@[simp] theorem State.misplacedRead_quiet (i : StreamId) (p : PortId) (k : Nat) :
    (s.misplacedRead i p k).quiet = s.quiet := by
  unfold State.misplacedRead
  simp

@[simp] theorem State.earlyRead_quiet (i : StreamId) (p : PortId) (k : Nat) :
    (s.earlyRead i p k).quiet = s.quiet := by
  unfold State.earlyRead
  simp

@[simp] theorem State.continueConsumer_quiet (i : StreamId) (p : PortId) (k : Nat) (offset : Nat) :
    (s.continueConsumer i p k offset).quiet = s.quiet := by
  unfold State.continueConsumer
  try dsimp only
  (repeat' split) <;> simp

@[simp] theorem State.consumerBeat_quiet (i : StreamId) (p : PortId) (k : Nat) (offset : Nat) :
    (s.consumerBeat i p k offset).quiet = s.quiet := by
  unfold State.consumerBeat
  try dsimp only
  (repeat' split) <;> simp

@[simp] theorem State.spanReport_quiet (i : StreamId) (sp : SpanState) (faulted : Bool) :
    (s.spanReport i sp faulted).quiet = s.quiet := by
  unfold State.spanReport
  try dsimp only
  (repeat' split) <;> simp

@[simp] theorem State.spanConsume_quiet (i : StreamId) (slot : Nat) (faulted : Bool) :
    (s.spanConsume i slot faulted).quiet = s.quiet := by
  unfold State.spanConsume
  dsimp only
  (repeat' split) <;> simp

@[simp] theorem State.fillHeldRead_quiet (i : StreamId) : (s.fillHeldRead i).quiet = s.quiet := by
  unfold State.fillHeldRead
  try dsimp only
  (repeat' split) <;> simp

@[simp] theorem State.completeDrain_quiet (i : StreamId) : (s.completeDrain i).quiet = s.quiet := by
  unfold State.completeDrain
  simp

@[simp] theorem State.drainTest_quiet (i : StreamId) : (s.drainTest i).quiet = s.quiet := by
  unfold State.drainTest
  try dsimp only
  (repeat' split) <;> simp

@[simp] theorem State.budgetTest_quiet (i : StreamId) : (s.budgetTest i).quiet = s.quiet := by
  unfold State.budgetTest
  try dsimp only
  (repeat' split) <;> simp

@[simp] theorem State.commit_quiet (i : StreamId) : (s.commit i).quiet = s.quiet := by
  unfold State.commit
  simp

@[simp] theorem State.endTest_quiet (i : StreamId) : (s.endTest i).quiet = s.quiet := by
  unfold State.endTest
  try dsimp only
  (repeat' split) <;> simp

@[simp] theorem State.afterConsume_quiet (i : StreamId) : (s.afterConsume i).quiet = s.quiet := by
  unfold State.afterConsume
  dsimp only
  (repeat' split) <;> simp <;> rfl

@[simp] theorem State.consume_quiet (i : StreamId) : (s.consume i).quiet = s.quiet := by
  unfold State.consume
  try dsimp only
  (repeat' split) <;> simp

@[simp] theorem State.drainAfterAbandon_quiet (i : StreamId) (abandoned : Bool) :
    (s.drainAfterAbandon i abandoned).quiet = s.quiet := by
  unfold State.drainAfterAbandon
  try dsimp only
  (repeat' split) <;> simp

@[simp] theorem State.producerBeat_quiet (i : StreamId) (p : PortId) (k : Nat) (data : Word) (full : Bool) (offset : Nat) :
    (s.producerBeat i p k data full offset).quiet = s.quiet := by
  unfold State.producerBeat
  dsimp only
  cases (s.stream i).producer.placement
  all_goals dsimp only
  all_goals (repeat' split) <;> simp

@[simp] theorem State.realOkay_quiet (i : StreamId) (m : RealMark) (data : Word) :
    (s.realOkay i m data).quiet = s.quiet := by
  unfold State.realOkay
  dsimp only
  (repeat' split) <;> simp

@[simp] theorem State.realError_quiet (i : StreamId) (m : RealMark) : (s.realError i m).quiet = s.quiet := by
  unfold State.realError
  dsimp only
  (repeat' split) <;> simp

@[simp] theorem State.realReturned_quiet (b : Binding) (m : RealMark) (r : Response) :
    (s.realReturned b m r).quiet = s.quiet := by
  unfold State.realReturned
  try dsimp only
  (repeat' split) <;> simp

@[simp] theorem State.returnResponse_quiet (p : PortId) (x : ResponseSlot) (r : Response) :
    (s.returnResponse p x r).quiet = s.quiet := by
  unfold State.returnResponse
  dsimp only
  (repeat' split) <;> simp

/-! ## What is returned upstream -/

@[simp] theorem State.returnDue_quiet (n : Nat) : (State.returnDue n s).quiet = s.quiet := by
  induction n generalizing s with
  | zero => rfl
  | succ n ih =>
    rw [State.returnDue]
    split
    · rfl
    · rw [ih]; simp

@[simp] theorem State.settle_quiet : s.settle.quiet = s.quiet := by
  unfold State.settle
  simp

end Sys2Proof.Machine
end

