-- ==== Sys2Proof/Laws/Ops.lean ====
section
/-! SUPPORT. What the shared operations can do, said once for the proofs that cite it: a command frame (R152), the arbiter
(R138), a forwarded beat (R47), and the responses due upstream (R23). -/

namespace Sys2Proof.Machine

open Sys2Proof Sys2Proof.Safety

/-! ## Command frames (R152) -/

/-- A row whose frame the port is receiving completes the frame. -/
theorem State.frameRow_of_receiving {s : State} {c : Instr} {command : State → State × Answer} (h : Receiving s c) :
    s.frameRow (frameOf c) command = s.completeFrame (frameOf c) command := by
  obtain ⟨hp, hc, ha⟩ := h
  simp [State.frameRow, State.selected, hp, hc, ha]

/-- A row whose frame the port is not receiving changes nothing. -/
theorem State.frameRow_of_not_receiving {s : State} {frame : List Byte} {command : State → State × Answer}
    (h : s.porHigh = false ∨ s.csHigh = true ∨ s.spi.awaits frame = false) : s.frameRow frame command = s := by
  rcases h with h | h | h <;> simp [State.frameRow, State.selected, h]

/-- A frame whose command is answered and changes nothing leaves only the answer behind. -/
theorem State.completeFrame_of_refused (s : State) (c : Instr) (code : ResultCode) :
    s.completeFrame (frameOf c) (fun s => (s, Answer.plain code)) = answered s c code.byte [] := rfl

/-- A command's own effect is applied to the state whose frame has been received; the answer is then laid out. -/
theorem State.completeFrame_eq (s : State) (frame : List Byte) (command : State → State × Answer) :
    s.completeFrame frame command
      = ((command (s.modSpi fun m =>
          { m with frame := frame, truncated := false, bitCount := 0, shiftIn := 0#8, miso := some false })).1).modSpi
          fun m =>
            { m with
              phase := .result
              outByte := (command (s.modSpi fun m =>
                { m with frame := frame, truncated := false, bitCount := 0, shiftIn := 0#8
                         miso := some false })).2.code.byte
              outQueue := (command (s.modSpi fun m =>
                { m with frame := frame, truncated := false, bitCount := 0, shiftIn := 0#8
                         miso := some false })).2.bytes } := rfl

/-! ## The arbiter and forwarded beats (R47, R138) -/

/-- Granting changes only the ports, the memory port and the pointer. -/
@[simp] theorem State.grantFirst_streams (s : State) (ps : List PortId) : (s.grantFirst ps).streams = s.streams := by
  induction ps with
  | nil => rfl
  | cons p ps ih =>
    rw [State.grantFirst]
    split
    · exact ih
    · rfl

@[simp] theorem State.grantFirst_lines (s : State) (ps : List PortId) : (s.grantFirst ps).lines = s.lines := by
  induction ps with
  | nil => rfl
  | cons p ps ih =>
    rw [State.grantFirst]
    split
    · exact ih
    · rfl

@[simp] theorem State.grantFirst_queue (s : State) (ps : List PortId) : (s.grantFirst ps).queue = s.queue := by
  induction ps with
  | nil => rfl
  | cons p ps ih =>
    rw [State.grantFirst]
    split
    · exact ih
    · rfl

@[simp] theorem State.grantFirst_choices (s : State) (ps : List PortId) : (s.grantFirst ps).choices = s.choices := by
  induction ps with
  | nil => rfl
  | cons p ps ih =>
    rw [State.grantFirst]
    split
    · exact ih
    · rfl

@[simp] theorem State.arbitrate_streams (s : State) : s.arbitrate.streams = s.streams := by
  unfold State.arbitrate
  split <;> simp

@[simp] theorem State.arbitrate_lines (s : State) : s.arbitrate.lines = s.lines := by
  unfold State.arbitrate
  split <;> simp

@[simp] theorem State.arbitrate_queue (s : State) : s.arbitrate.queue = s.queue := by
  unfold State.arbitrate
  split <;> simp

@[simp] theorem State.arbitrate_choices (s : State) : s.arbitrate.choices = s.choices := by
  unfold State.arbitrate
  split <;> simp

@[simp] theorem State.arbitrate_stream (s : State) (i : StreamId) : s.arbitrate.stream i = s.stream i := by
  simp [State.stream]

@[simp] theorem State.arbitrate_line (s : State) (l : LineId) : s.arbitrate.line l = s.line l := by
  simp [State.line]

@[simp] theorem State.forward_streams (s : State) (p : PortId) (kind : SegmentKind) (dir : Dir) (addr : Word)
    (b : Binding) (beat : SegmentBeat) : (s.forward p kind dir addr b beat).streams = s.streams := by
  simp [State.forward]

@[simp] theorem State.forward_lines (s : State) (p : PortId) (kind : SegmentKind) (dir : Dir) (addr : Word)
    (b : Binding) (beat : SegmentBeat) : (s.forward p kind dir addr b beat).lines = s.lines := by
  simp [State.forward]

@[simp] theorem State.forward_queue (s : State) (p : PortId) (kind : SegmentKind) (dir : Dir) (addr : Word)
    (b : Binding) (beat : SegmentBeat) : (s.forward p kind dir addr b beat).queue = s.queue := by
  simp [State.forward]

@[simp] theorem State.forward_stream (s : State) (p : PortId) (kind : SegmentKind) (dir : Dir) (addr : Word)
    (b : Binding) (beat : SegmentBeat) (i : StreamId) : (s.forward p kind dir addr b beat).stream i = s.stream i := by
  simp [State.stream]

/-- While the memory port is BUSY the arbiter grants nothing. -/
theorem State.arbitrate_of_busy {s : State} {g : Granted} (h : s.memory = some g) : s.arbitrate = s := by
  simp [State.arbitrate, h]

/-! ## Pace lines (R128 to R132) -/

/-- The record of a pace line after a change of them all. -/
@[simp] theorem State.mapLines_line (s : State) (f : Line → Line) (l : LineId) : (s.mapLines f).line l = f (s.line l) := by
  fin_cases l <;> rfl

/-- Two changes of the pace lines, one after the other, are one. -/
theorem State.mapLines_mapLines (s : State) (f g : Line → Line) :
    (s.mapLines f).mapLines g = s.mapLines fun l => g (f l) := rfl

/-- Two changes of the pace lines that agree on every record of `s` give the same lines. -/
theorem State.mapLines_congr {s : State} {f g : Line → Line} (h : ∀ l : LineId, f (s.line l) = g (s.line l)) :
    s.mapLines f = s.mapLines g := by
  simp [State.mapLines, h]

/-- A change that leaves every record of `s` as it is changes nothing. -/
theorem State.mapLines_eq_self {s : State} {f : Line → Line} (h : ∀ l : LineId, f (s.line l) = s.line l) :
    s.mapLines f = s := by
  have hl : (s.mapLines f).lines = s.lines := Vector.ext fun n hn => by
    simpa [State.line] using (State.mapLines_line s f ⟨n, hn⟩).trans (h _)
  calc s.mapLines f = { s with lines := (s.mapLines f).lines } := rfl
    _ = s := by rw [hl]

/-- R128: the readiness of a bound side, in the words of the statements. -/
theorem State.sideReady_iff (s : State) (l : Line) :
    s.sideReady l.stream l.side l.packet = true ↔ LineReady (s.stream l.stream) l := by
  cases h : l.side <;> simp [State.sideReady, LineReady, h, and_assoc]

/-- R129: the readiness test of one line. -/
theorem State.tested_eq (s : State) (l : Line) :
    s.tested l
      = if l.state = .watching ∧ LineReady (s.stream l.stream) l then { l with state := .granted } else l := by
  simp only [State.tested, Bool.and_eq_true, decide_eq_true_eq, State.sideReady_iff]

/-- R129: what an event of stream `i` does to the pace lines, and that it does nothing else. -/
theorem State.paceTest_eq (s : State) (i : StreamId) :
    s.paceTest i = { s with lines := linesTested s i (s.stream i) } := by
  have h : s.paceTest i = s.mapLines fun l =>
      if l.stream = i ∧ l.state = .watching ∧ LineReady (s.stream i) l then { l with state := .granted } else l :=
    State.mapLines_congr fun l => by
      by_cases h : (s.line l).stream = i
      · subst h; simp [State.tested_eq]
      · simp [h]
  rw [h]; rfl

/-- R130: what a placed or REAL frame start does to the pace lines, and that it does nothing else. -/
theorem State.paceFrameStart_eq (s : State) (i : StreamId) (side : Side) :
    s.paceFrameStart i side = { s with lines := linesStarted s i side } := rfl

/-- R129, R132: what a drop does to the pace lines, and that it does nothing else. -/
theorem State.paceDrop_eq (s : State) (i : StreamId) (side : Side) :
    s.paceDrop i side = { s with lines := linesDropped s i side (s.stream i) } := by
  have hd (l : Line) : l.droppable i side = true
      ↔ l.stream = i ∧ l.side = side ∧ (l.state = .granted ∨ l.state = .inPacket) := by
    simp [Line.droppable, and_assoc]
  have he : (allLines.any fun m => (s.line m).droppable i side) = true
      ↔ ∃ l : LineId, (s.line l).droppable i side = true := by
    simp [allLines, Fin.exists_fin_succ]
  by_cases h : ∃ l : LineId, (s.line l).droppable i side = true
  · have hl : linesDropped s i side (s.stream i) = ((s.mapLines (·.dropped i side)).paceTest i).lines := by
      rw [State.paceTest_eq, linesDropped, if_pos (by simpa [hd] using h)]
      simp only [Line.dropped, hd, State.mapLines_stream]
    have hs (l : Line) : (l.dropped i side).stream = l.stream := by simp only [Line.dropped]; split <;> rfl
    calc s.paceDrop i side = (s.mapLines (·.dropped i side)).paceTest i := by
            simp only [State.paceDrop, he.mpr h, State.paceTest, State.mapLines_mapLines]
            refine State.mapLines_congr fun l => ?_
            by_cases hi : (s.line l).stream = i
            · simp only [hs, hi, beq_self_eq_true, Bool.and_self, if_true]; rfl
            · simp [hi, Line.dropped, Line.droppable]
      _ = { s with lines := linesDropped s i side (s.stream i) } := by rw [hl]; rfl
  · rw [linesDropped, if_neg (by simpa [hd] using h)]
    simp only [State.paceDrop, Bool.eq_false_iff.mpr (mt he.mp h)]
    exact State.mapLines_eq_self fun l => by simp

/-- A line that has just dropped is not tested at the instant its side stops flowing: where the side is not ready the
drop leaves it WATCHING with credit 0. -/
theorem State.tested_of_not_ready {s : State} {l : Line} (h : s.sideReady l.stream l.side l.packet = false) :
    s.tested l = l := by
  simp [State.tested, h]

/-! ## Responses due (R23) -/

/-- With nothing due upstream, no response is the first. -/
theorem State.firstDue_of_nothingDue {s : State} (h : NothingDue s) : s.firstDue = none := by
  simp [State.firstDue, allPorts, (h 0).1, (h 1).1, (h 2).1, (h 3).1]

/-- With nothing due, returning what is due changes nothing. -/
theorem State.returnDue_of_nothingDue {s : State} (h : NothingDue s) (n : Nat) : State.returnDue n s = s := by
  cases n with
  | zero => rfl
  | succ n => rw [State.returnDue, State.firstDue_of_nothingDue h]

/-- A port whose write is not done returns no completion. -/
theorem Port.completeWrite_of_not_done {port : Port} (h : ∀ t ∈ port.txn, t.writeDone = false) :
    port.completeWrite = port := by
  unfold Port.completeWrite
  split
  · next t ht => simp [h t (by simp [ht])]
  · rfl

/-- With nothing due, settling changes nothing. -/
theorem State.settle_of_nothingDue {s : State} (h : NothingDue s) : s.settle = s := by
  rw [State.settle, State.returnDue_of_nothingDue h]
  exact State.mapPorts_id fun p => Port.completeWrite_of_not_done (h p).2

/-- A port's response is due only for the transaction in progress. -/
theorem Port.responseDue_of_idle {port : Port} (h : port.txn = none) : port.responseDue = none := by
  simp [Port.responseDue, h]

end Sys2Proof.Machine
end

