-- ==== Sys2Proof/Tests/Slice0.lean ====
section
/-! SUPPORT. Small tests: ill-formed commands refused, the spec's own worked examples, frames written out byte by byte, and
for each statement with hypotheses a concrete state that meets them. Expected values are the spec's (the section stands in
the docstring), never the model's own answer. -/

namespace Sys2Proof.Tests

open Sys2Proof Sys2Proof.Machine Sys2Proof.Safety

set_option Elab.async false
set_option synthInstance.maxSize 2000
set_option synthInstance.maxHeartbeats 200000

/-! ## The example streams of section 1 and the states they stand in -/

/-- Example stream 2 (audio), as the host supplies it to OPEN. -/
def stream2 : RawDescriptor :=
  { base := 0x20040000#32, channels := 2, sampleBytes := 2, depth := 8, producerPort := 1, consumerPort := 2,
    observerPolicy := 0, fullPolicy := 0, stallLimit := 0, emptyPolicy := 0, waitLimit := 0, fillMode := 2,
    fillWord := 0, restartLevel := 3, autoResume := 0, spanLength := 4, budget := 20 }

/-- Example stream 5 (sensor concentrator), as the host supplies it to OPEN. -/
def stream5 : RawDescriptor :=
  { base := 0x20041000#32, channels := 4, sampleBytes := 3, depth := 64, producerPort := 0, consumerPort := 0,
    observerPolicy := 1, fullPolicy := 0, stallLimit := 0, emptyPolicy := 0, waitLimit := 0, fillMode := 0,
    fillWord := 0, restartLevel := 16, autoResume := 1, spanLength := 16, budget := 0 }

/-- Stream 2's settings with STALL and WAIT, two beats to a frame, no budget and no spans. -/
def waiting2 : RawDescriptor :=
  { stream2 with channels := 4, fullPolicy := 1, stallLimit := 1, emptyPolicy := 1, waitLimit := 255, spanLength := 0,
                 budget := 0 }

/-- The record of a stream just opened with this descriptor (R17). -/
def openedWith (r : RawDescriptor) : Stream := Stream.opened (storedDescriptor r) 0xFFFFFFFF#32 1

/-- The part after reset with this record in place of stream `i`'s. -/
def withRecord (i : StreamId) (st : Stream) : State := State.reset.modStream i fun _ => st

/-- Streams 2 and 5 open. -/
def bothOpen : State := (withRecord 2 (openedWith stream2)).modStream 5 fun _ => openedWith stream5

/-- The session of a stream opened once after reset. -/
def session (i : StreamId) : Binding := { stream := i, session := 1, fillWord := 0#32 }

/-- A transaction in progress. -/
def transaction (dir : Dir) (addr : Word) (beats position : Nat) (cls : Option TransactionClass) : Transaction :=
  { dir := dir, addr := addr, beats := beats, cls := cls, position := position, outstanding := 0, anyError := false,
    endedWithError := false, hold := none, deferred := false, responses := [] }

/-- A port's transaction put in place. -/
def withTxn (s : State) (p : PortId) (t : Transaction) : State := s.modPort p fun port => { port with txn := some t }

/-- A producer write of stream 2 at the base of its body. -/
def write2 (position : Nat) : Transaction := transaction .write 0x20040000#32 4 position (some (.producer (session 2)))

/-- A consumer read of stream 2 at the base of its body. -/
def read2 (position : Nat) : Transaction := transaction .read 0x20040000#32 4 position (some (.consumer (session 2)))

/-- A consumer read of stream 2 whose newest beat has no disposition yet. -/
def readOwing2 : Transaction := { read2 1 with responses := [{ beat := 0, mark := none, value := none }] }

/-- CSn low, and all of the frame of `c` received but the last byte. -/
def receiving (s : State) (c : Instr) : State :=
  { s with csHigh := false
           spi := { Management.reset with phase := .frame, frame := (frameOf c).dropLast, miso := some false } }

/-- CSn low and the management port in this phase. -/
def inPhase (phase : SpiPhase) (bits : Nat) : State :=
  { State.reset with csHigh := false, spi := { Management.reset with phase := phase, bitCount := bits, miso := some false } }

/-- What the state after a command shows. -/
def after {α : Type} (c : Instr) (s : State) (look : State → α) : Option α :=
  match exec c s with
  | .next t => some (look t)
  | .fault _ => none
  | .refused _ => none

/-- The result code a command is answered with. -/
def answerOf (s : State) (c : Instr) : Option Byte := after c (receiving s c) fun t => t.spi.outByte

/-! ## Ill-formed commands -/

/-- R21: an address that is not a word address. -/
theorem test_misaligned_request_is_ill_formed : (Instr.requestTaken 0 .read 0x1002#32 1).wellFormed = false := by decide

/-- R21: a request of 0 beats. -/
theorem test_request_of_no_beats_is_ill_formed : (Instr.requestTaken 0 .read 0x1000#32 0).wellFormed = false := by decide

/-- R21: a request of 17 beats. -/
theorem test_request_of_17_beats_is_ill_formed : (Instr.requestTaken 0 .write 0x1000#32 17).wellFormed = false := by
  decide

/-- R155: 0x10 is OPEN's code, no unknown one. -/
theorem test_assigned_code_is_no_unknown : (Instr.unknown 0x10#8).wellFormed = false := by decide

/-- R21, R155: the longest request, and codes 0x00 and 0xFF. -/
theorem test_well_formed_commands :
    (Instr.requestTaken 3 .write 0xFFFFFFFC#32 16).wellFormed = true ∧ (Instr.unknown 0x00#8).wellFormed = true
      ∧ (Instr.unknown 0xFF#8).wellFormed = true := by decide

/-- An ill-formed request is not taken. -/
theorem test_misaligned_request_is_not_taken :
    after (.requestTaken 0 .read 0x1002#32 1) State.reset (fun t => (t.port 0).txn) = some none := by decide +kernel

/-! ## Frames written out (R156, R163) -/

/-- Section 11.6: EXTEND of 8 frames to stream 2. -/
theorem test_extend_frame : decodeFrame 0x12#8 0x02#8 [0x00#8, 0x00#8, 0x08#8] = some (.extend 2 8) := by decide

/-- R156: CLOSE ABORT of stream 5, ACKNOWLEDGE of its consumer, and a mode that names neither. -/
theorem test_close_and_acknowledge_frames :
    decodeFrame 0x11#8 0x05#8 [0x01#8] = some (.closeAbort 5)
      ∧ decodeFrame 0x13#8 0x05#8 [0x01#8] = some (.acknowledgeConsumer 5)
      ∧ decodeFrame 0x11#8 0x05#8 [0x02#8] = none := by decide

/-- R163: OPEN 2 with stream 2's descriptor, byte by byte. -/
theorem test_open_frame :
    decodeFrame 0x10#8 0x02#8
      [0x20#8, 0x04#8, 0x00#8, 0x00#8, 2#8, 2#8, 0x00#8, 0x08#8, 1#8, 2#8, 0#8, 0#8, 0#8, 0#8, 0#8, 2#8,
       0x00#8, 0x00#8, 0x00#8, 0x00#8, 0x00#8, 0x03#8, 0#8, 0x00#8, 0x04#8, 0x00#8, 0x00#8, 0x14#8]
      = some (.openStream 2 stream2) := by decide

/-- R165: the mask argument 0x98 0x06 is the default mask 0x9806; SET_INTEGRITY carries both values in order. -/
theorem test_mask_and_integrity_frames :
    decodeFrame 0x41#8 0x00#8 [0x98#8, 0x06#8] = some (.setAlertMask 0 Config.defaultMask)
      ∧ decodeFrame 0x40#8 0x00#8 [0x04#8, 0xC1#8, 0x1D#8, 0xB7#8, 0xFF#8, 0xFF#8, 0xFF#8, 0xFF#8]
        = some (.setIntegrity 0 0x04C11DB7#32 0xFFFFFFFF#32)
      ∧ decodeFrame 0x30#8 0x03#8 [0x02#8, 0x01#8, 0x05#8] = some (.bindPace 3 2 1 5) := by decide

/-! ## The spec's worked examples -/

/-- R112: the nine bytes 0x31 to 0x39 give the CRC 0x0376_E6E7. -/
theorem test_crc_of_nine_bytes :
    crcBytes 0x04C11DB7#32 0xFFFFFFFF#32 [0x31#8, 0x32#8, 0x33#8, 0x34#8, 0x35#8, 0x36#8, 0x37#8, 0x38#8, 0x39#8]
      = 0x0376E6E7#32 := by decide +kernel

/-- R160: the summary byte of the first transaction after a reset is 0x41. -/
theorem test_summary_byte_after_reset :
    after .csnFall State.reset (fun t => (t.spi.outByte, t.spi.miso)) = some (0x41#8, some false) := by decide +kernel

/-- Section 1, four OPEN commands: CONFLICT, RANGE, OK, OVERLAP. -/
theorem test_four_open_commands :
    answerOf State.reset (.openStream 5 { stream5 with fullPolicy := 1, stallLimit := 9 }) = some 0x05#8
      ∧ answerOf State.reset (.openStream 5 { stream5 with fullPolicy := 1, stallLimit := 9, channels := 3 })
        = some 0x03#8
      ∧ answerOf State.reset (.openStream 5 stream5) = some 0x01#8
      ∧ answerOf (withRecord 5 (openedWith stream5)) (.openStream 2 { stream2 with base := 0x200412F0#32 })
        = some 0x06#8 := by decide +kernel

/-- Section 1: stream 2 at its own base then opens, and a further OPEN 5 answers STATE. -/
theorem test_open_2_then_open_5 :
    answerOf (withRecord 5 (openedWith stream5)) (.openStream 2 stream2) = some 0x01#8
      ∧ answerOf bothOpen (.openStream 5 { stream5 with channels := 3 }) = some 0x02#8 := by decide +kernel

/-- R14: the SPAN check on the five rows of its table. -/
theorem test_span_check_rows :
    [spanCheck { stream2 with depth := 8, spanLength := 4 }, spanCheck { stream2 with depth := 64, spanLength := 16 },
      spanCheck { stream2 with depth := 64, spanLength := 4 }, spanCheck { stream2 with depth := 48, spanLength := 10 },
      spanCheck { stream2 with depth := 4096, spanLength := 512 }] = [true, true, false, false, true] := by
  decide +kernel

/-- Section 2, classifying eight transactions. -/
theorem test_eight_transactions :
    bothOpen.classify 1 .write 0x20040008#32 4 = .producer (session 2)
      ∧ bothOpen.classify 2 .read 0x20040018#32 4 = .straddle
      ∧ bothOpen.classify 3 .write 0x20040000#32 1 = .observerPass (session 2)
      ∧ bothOpen.classify 3 .read 0x20041100#32 8 = .observerRefuse (session 5)
      ∧ bothOpen.classify 0 .read 0x20041000#32 3 = .consumer (session 5)
      ∧ bothOpen.classify 0 .write 0x20040000#32 2 = .observerPass (session 2)
      ∧ bothOpen.classify 1 .read 0x20040010#32 2 = .observerPass (session 2)
      ∧ bothOpen.classify 1 .read 0x20040020#32 16 = .plain := by decide +kernel

/-- Section 2, transaction 4: eight beats ERROR with data 0, and REFUSED with value1 0x2004_1103. -/
theorem test_refused_read :
    after (.requestTaken 3 .read 0x20041100#32 8) bothOpen
        (fun t => ((t.port 3).returned.length, (t.port 3).returned.all fun r => r = errorResponse,
          (t.queue.records.getLast?).map fun n => (n.kind, n.subject, n.value1)))
      = some (8, true, some (.refused, 5#8, 0x20041103#32)) := by decide +kernel

/-- Section 8.7: the three binds on stream 2. -/
theorem test_binds_on_stream_2 :
    answerOf bothOpen (.bindPace 3 2 1 5) = some 0x03#8
      ∧ after (.bindPace 0 2 0 2) (receiving bothOpen (.bindPace 0 2 0 2)) (fun t => t.pace 0) = some true
      ∧ after (.bindPace 3 2 1 4) (receiving bothOpen (.bindPace 3 2 1 4)) (fun t => ((t.line 3).state, t.pace 3))
        = some (.watching, false) := by decide +kernel

/-- R129: a WATCHING producer line that is ready since an abandonment is granted at the consumer line's bind, and at its drop;
where the consumer line is WATCHING already there is no drop, and no test. -/
theorem test_entry_into_watching_tests_both_lines :
    after (.bindPace 3 2 1 4)
        (receiving (bothOpen.setLine 0 { state := .watching, stream := 2, side := .producer, packet := 2, credit := 0 })
          (.bindPace 3 2 1 4)) (fun t => ((t.line 0).state, (t.line 3).state)) = some (.granted, .watching)
      ∧ [LineState.inPacket, .watching].map (fun state =>
          (((bothOpen.setLine 0 { state := .watching, stream := 2, side := .producer, packet := 2, credit := 0 }).setLine 3
            { state := state, stream := 2, side := .consumer, packet := 4, credit := 1 }).paceDrop 2 .consumer).pace 0)
        = [true, false] := by decide +kernel

/-- Section 11.6: raising CSn after the second argument byte sets the truncated flag; the next summary byte, with three
records and one of them an OVERRUN, is 0x83. -/
theorem test_truncated_extend :
    (after .csnRise { inPhase .frame 0 with spi := { (inPhase .frame 0).spi with frame := [0x12#8, 2#8, 0#8, 0#8] } }
        (fun t => t.spi.truncated)) = some true
      ∧ (after .csnFall
          { State.reset with
            queue := { State.reset.queue with
              records := [startedNotice 1#32, startedNotice 1#32,
                { startedNotice 1#32 with kind := .overrun }] }
            spi := { Management.reset with truncated := true } }
          (fun t => t.spi.outByte)) = some 0x83#8 := by decide +kernel

/-- Section 3.11, one burst on stream 2: its first beat is placed in slot 0 and granted the memory port at once. -/
theorem test_first_beat_of_stream_2 :
    after (.writeBeat 1 0x11223344#32 0xF#4) (withTxn bothOpen 1 (write2 0))
        (fun t => ((t.stream 2).producer.inFlight.map fun e => (e.index, e.slot, e.stage),
          t.memory.map fun g => (g.owner, g.segment.addr)))
      = some ([(0#32, 0, .sealed)], some (1, 0x20040000#32)) := by decide +kernel

/-- R86, R91: a consumer frame start of stream 2 with nothing committed begins an underrun and posts UNDERRUN with C. -/
theorem test_first_read_of_an_empty_ring :
    after (.readBeat 2) (withTxn bothOpen 2 (read2 0))
        (fun t => ((t.stream 2).consumer.phase, (t.stream 2).consumer.tally, (t.port 2).returned,
          (t.queue.records.getLast?).map fun n => (n.kind, n.side, n.value1)))
      = some (.underrun, 1#32, [okayResponse 0#32], some (.underrun, .consumer, 0#32)) := by decide +kernel

/-! ## States that meet the hypotheses of the statements, one theorem for a statement -/

/-- A stream record in UNDERRUN, or a producer in OVERRUN, and so on, from stream 2's. -/
def producing (ps : ProducerSide → ProducerSide) (r : RawDescriptor) : Stream :=
  { openedWith r with producer := ps ProducerSide.fresh }

/-- Stream 2 with this consumer side. -/
def consuming (cs : ConsumerSide → ConsumerSide) (r : RawDescriptor) : Stream :=
  { openedWith r with consumer := cs ConsumerSide.fresh }

/-- A stream with `p` frames committed and `c` consumed. -/
def standing (p c : Nat) (st : Stream) : Stream :=
  { st with committed := BitVec.ofNat 32 p, consumed := BitVec.ofNat 32 c, producerCursor := p % st.desc.depth
            consumerCursor := c % st.desc.depth }

/-- ClockAndMicrosecondTick. -/
theorem test_witness_clock_and_tick :
    ({ State.reset with porHigh := false }.pending = [] ∧ { State.reset with porHigh := false }.porHigh = false)
      ∧ (State.reset.pending = [] ∧ State.reset.porHigh = true
        ∧ State.reset.timebase.count + 1 < State.reset.timebase.divider)
      ∧ ({ State.reset with timebase := ⟨1, 1, 0⟩ }.pending = []
        ∧ { State.reset with timebase := ⟨1, 1, 0⟩ }.timebase.divider
          ≤ { State.reset with timebase := ⟨1, 1, 0⟩ }.timebase.count + 1)
      ∧ ((withTxn bothOpen 1 { write2 1 with hold := some ⟨2, 1, 0⟩ }).porHigh = true
        ∧ ((withTxn bothOpen 1 { write2 1 with hold := some ⟨2, 1, 0⟩ }).port 1).txn
          = some { write2 1 with hold := some ⟨2, 1, 0⟩ } ∧ (⟨2, 1, 0⟩ : Hold).count < (⟨2, 1, 0⟩ : Hold).limit)
      ∧ ((withTxn bothOpen 1 (write2 1)).port 1).txn = some (write2 1) ∧ (bothOpen.port 1).txn = none := by
  decide +kernel

/-- CommandFramesAndCommandsAgree. -/
theorem test_witness_command_frames :
    (Instr.unbindPace 7).frame = some [0x31#8, 7#8] ∧ decodeFrame 0x50#8 0xFF#8 [] = some (.reset 0xFF#8) := by decide

/-- DescriptorFieldsStandAtTheirOffsetsAndReadBack, at both ends of the depth. -/
theorem test_witness_descriptor_in_range :
    DescriptorInRange stream2 ∧ DescriptorInRange waiting2
      ∧ DescriptorInRange { stream2 with depth := 2, restartLevel := 1 }
      ∧ DescriptorInRange { stream2 with depth := 4096, restartLevel := 4095, base := 0xFFFFC000#32 } := by decide +kernel

/-- ShiftingInAFrameRunsItsCommand: just after CSn has fallen. -/
theorem test_witness_shifting_in :
    (Instr.reset 0).frame = some [0x50#8, 0#8] ∧ (inPhase .summary 0).porHigh = true
      ∧ (inPhase .summary 0).csHigh = false ∧ (inPhase .summary 0).spi.phase = .summary
      ∧ (inPhase .summary 0).spi.frame = [] ∧ (inPhase .summary 0).spi.bitCount = 0
      ∧ (inPhase .summary 0).spi.shiftIn = 0#8 := by decide +kernel

/-- SckEdgesShiftBitsAndReceiveBytes: bits 6 and 7, the ignored edges, and each phase at the eighth bit. -/
theorem test_witness_sck_edges :
    ((inPhase .frame 6).porHigh = true ∧ (inPhase .frame 6).csHigh = false ∧ (inPhase .frame 6).spi.phase ≠ .idle
        ∧ (inPhase .frame 6).spi.bitCount < 7 ∧ (inPhase .frame 7).spi.bitCount ≤ 7)
      ∧ (State.reset.csHigh = true ∧ (inPhase .idle 0).spi.phase = .idle
        ∧ { State.reset with porHigh := false }.porHigh = false)
      ∧ ((inPhase .summary 7).spi.bitCount = 7 ∧ argumentBytes 0x20#8 ≠ none ∧ argumentBytes 0x21#8 ≠ none
        ∧ argumentBytes 0x00#8 = none ∧ argumentBytes 0x01#8 = none)
      ∧ ((inPhase .frame 7).spi.phase = .frame ∧ argumentBytes (([0x42#8] ++ [0#8]).getD 0 0#8) ≠ some ([0x42#8].length - 1)
        ∧ 1 ≤ [0x42#8].length)
      ∧ (inPhase .result 7).spi.phase = .result ∧ (inPhase .reject 7).spi.phase = .reject := by decide +kernel

/-- UnknownCodeIsRejected: codes 0x00 and 0xFF at the first bit and the last. -/
theorem test_witness_unknown :
    ((inPhase .summary 0).spi.awaits [0x00#8] = true ∧ argumentBytes 0x00#8 = none)
      ∧ ({ (inPhase .summary 7).spi with shiftIn := 0x7F#8 }.awaits [0xFF#8] = true ∧ argumentBytes 0xFF#8 = none) := by
  decide +kernel

/-- CsnEdgesBeginAndEndATransaction. -/
theorem test_witness_csn_edges :
    (State.reset.csHigh = true ∧ State.reset.porHigh = true ∧ State.reset.queue.records.length ≤ 32)
      ∧ { State.reset with porHigh := false }.csHigh = true
      ∧ ((inPhase .frame 0).csHigh = false ∧ (inPhase .frame 0).porHigh = true
        ∧ (inPhase .frame 0).spi.resetPending = false)
      ∧ { inPhase .idle 0 with porHigh := false }.csHigh = false := by decide +kernel

/-- BothResetsGiveTheResetValues and ResetEndsStreamTransactionsOnly. -/
theorem test_witness_resets :
    ({ inPhase .result 0 with spi := { (inPhase .result 0).spi with resetPending := true } }.spi.resetPending = true
        ∧ (inPhase .result 0).porHigh = true ∧ (inPhase .result 0).csHigh = false)
      ∧ ({ State.reset with porHigh := false, queue := ⟨[], 0#8, 0x9806#16⟩ }.porHigh = false
        ∧ { State.reset with porHigh := false, queue := ⟨[], 0#8, 0x9806#16⟩ }.queue.records = [])
      ∧ (PortsInForm (withTxn bothOpen 1 (write2 1)) ∧ producerBinding (.producer (session 2)) ≠ none)
      ∧ (PortsInForm (withTxn bothOpen 3 (transaction .write 0x1000#32 4 1 (some .straddle)))
        ∧ producerBinding .straddle = none ∧ consumerBinding .straddle = none) := by decide +kernel

/-- ResetEndsStreamTransactionsOnly, the answers: a read with a beat owed, a write with every beat accepted and one with
beats to come, none of their beats on the memory port, and a write with no class. -/
theorem test_witness_reset_answers :
    (PortsInForm (withTxn bothOpen 2 readOwing2) ∧ OnPath readOwing2 ∧ readOwing2.dir = .read
        ∧ (readOwing2.responses ≠ [] ∨ readOwing2.position < readOwing2.beats)
        ∧ (withTxn bothOpen 2 readOwing2).beatsOnMemory 2 = [])
      ∧ (PortsInForm (withTxn bothOpen 1 { write2 4 with outstanding := 1 })
        ∧ OnPath { write2 4 with outstanding := 1 } ∧ { write2 4 with outstanding := 1 }.position = 4
        ∧ (withTxn bothOpen 1 { write2 4 with outstanding := 1 }).beatsOnMemory 1 = [])
      ∧ (OnPath (write2 3) ∧ (write2 3).position < (write2 3).beats)
      ∧ PortsInForm (withTxn bothOpen 3 (transaction .write 0x1000#32 1 0 none)) := by decide +kernel

/-- R38: at a power-on reset the four beats of that read are answered ERROR, the three never handed on too. -/
theorem test_reset_answers_a_read :
    after .powerOnReset (withTxn bothOpen 2 readOwing2) (fun t => ((t.port 2).txn, (t.port 2).returned))
      = some (none, List.replicate 4 errorResponse) := by decide +kernel

/-- OpenAnswersItsFirstFailingCheckOrStartsTheStream: each check failing first, and all passing. -/
theorem test_witness_open :
    Receiving (receiving bothOpen (.openStream 2 stream2)) (.openStream 2 stream2)
      ∧ 16 ≤ (16#8).toNat ∧ (bothOpen.stream 2).state ≠ .closed
      ∧ ((State.reset.stream 2).state = .closed ∧ ¬ DescriptorInRange { stream2 with depth := 4097 })
      ∧ (DescriptorInRange { stream2 with depth := 64 } ∧ ¬ SpanFits { stream2 with depth := 64 })
      ∧ (DescriptorInRange { waiting2 with consumerPort := 1 } ∧ SpanFits { waiting2 with consumerPort := 1 }
        ∧ ¬ PortsFit { waiting2 with consumerPort := 1 })
      ∧ (DescriptorInRange { stream2 with base := 0x200412FC#32 } ∧ PortsFit { stream2 with base := 0x200412FC#32 }
        ∧ ¬ BodyFree (withRecord 5 (openedWith stream5)) 2 { stream2 with base := 0x200412FC#32 })
      ∧ (DescriptorInRange { stream2 with base := 0x20041300#32 } ∧ SpanFits { stream2 with base := 0x20041300#32 }
        ∧ PortsFit { stream2 with base := 0x20041300#32 }
        ∧ BodyFree (withRecord 5 (openedWith stream5)) 2 { stream2 with base := 0x20041300#32 }) := by decide +kernel

/-- StatusReturnsTheRecordFieldByField. -/
theorem test_witness_status :
    Receiving (receiving bothOpen (.status 2)) (.status 2) ∧ (2#8).toNat = (2 : StreamId).val
      ∧ Receiving (receiving bothOpen (.status 16)) (.status 16) := by decide +kernel

/-- CloseIsRefusedOrEndsAnEndedStream. -/
theorem test_witness_close_refused :
    Receiving (receiving State.reset (.closeDrain 16)) (.closeDrain 16)
      ∧ Receiving (receiving State.reset (.closeAbort 15)) (.closeAbort 15)
      ∧ (State.reset.stream 15).state = .closed
      ∧ ((withRecord 2 { openedWith stream2 with state := .draining }).stream 2).state = .draining
      ∧ ((withRecord 2 { openedWith stream2 with state := .ended }).stream 2).state = .ended := by decide +kernel

/-- CSn low, and all of a three-byte frame received but the last bit of its last byte. -/
def atLastBit (code target shifted : Byte) : State :=
  { inPhase .frame 7 with spi := { (inPhase .frame 7).spi with frame := [code, target], shiftIn := shifted } }

/-- CloseIsRefusedOrEndsAnEndedStream and AcknowledgeFollowsItsChecks, edge by edge: the codes 2 and 255 name no mode and no
side. -/
theorem test_witness_unassigned_codes :
    ((atLastBit 0x11#8 2#8 1#8).porHigh = true ∧ (atLastBit 0x11#8 2#8 1#8).csHigh = false
        ∧ (atLastBit 0x11#8 2#8 1#8).spi.phase = .frame ∧ (atLastBit 0x11#8 2#8 1#8).spi.frame = [0x11#8, 2#8]
        ∧ (atLastBit 0x11#8 2#8 1#8).spi.bitCount = 7
        ∧ 2#8 = BitVec.ofNat 8 (2 * (atLastBit 0x11#8 2#8 1#8).spi.shiftIn.toNat + false.toNat) ∧ 2 ≤ (2#8).toNat)
      ∧ (atLastBit 0x13#8 2#8 0x7F#8).spi.frame = [0x13#8, 2#8]
      ∧ 0xFF#8 = BitVec.ofNat 8 (2 * (atLastBit 0x13#8 2#8 0x7F#8).spi.shiftIn.toNat + true.toNat) := by decide +kernel

/-- R72, R105: such a frame answers RANGE. -/
theorem test_unassigned_codes_answer_range :
    after (.sckEdge (.rising false)) (atLastBit 0x11#8 2#8 1#8) (fun t => t.spi.outByte) = some 0x03#8
      ∧ after (.sckEdge (.rising true)) (atLastBit 0x13#8 2#8 0x7F#8) (fun t => t.spi.outByte) = some 0x03#8 := by
  decide +kernel

/-- CloseDrainBeginsTheDrain, with the producer FLOWING and HELD. -/
theorem test_witness_close_drain :
    Receiving (receiving bothOpen (.closeDrain 2)) (.closeDrain 2) ∧ (bothOpen.stream 2).state = .opened
      ∧ (bothOpen.stream 2).producer.phase ≠ .held
      ∧ ((withRecord 2 (producing (fun ps => { ps with phase := .held }) waiting2)).stream 2).producer.phase = .held := by
  decide +kernel

/-- DrainTestClosesAnEmptyDrainingStream, with the test failing and passing, and a read held. -/
theorem test_witness_drain_test :
    (bothOpen.stream 2).state ≠ .draining
      ∧ (({ openedWith stream2 with state := .draining } : Stream).committed
          = ({ openedWith stream2 with state := .draining } : Stream).consumed
        ∧ ({ openedWith stream2 with state := .draining } : Stream).producer.inFlight = [])
      ∧ (TransactionInForm readOwing2 ∧ readOwing2.dir = .read
        ∧ readOwing2.responses = [] ++ [{ beat := readOwing2.position - 1, mark := none, value := none }]) := by
  decide +kernel

/-- CloseAbortEndsTheSession. -/
theorem test_witness_close_abort :
    Receiving (receiving bothOpen (.closeAbort 2)) (.closeAbort 2) ∧ (bothOpen.stream 2).state = .opened
      ∧ (TransactionInForm (write2 1) ∧ (write2 1).dir = .write) ∧ (TransactionInForm readOwing2 ∧ readOwing2.dir = .read) := by
  decide +kernel

/-- ExtendFollowsItsChecks: each check, the largest sum accepted and the first refused. -/
theorem test_witness_extend :
    Receiving (receiving bothOpen (.extend 2 8)) (.extend 2 8)
      ∧ ((bothOpen.stream 2).state = .opened ∧ (bothOpen.stream 2).desc.budget ≠ 0
        ∧ (bothOpen.stream 2).producer.phase ≠ .done ∧ (bothOpen.stream 2).extension = none)
      ∧ (bothOpen.stream 5).desc.budget = 0
      ∧ (producing (fun ps => { ps with phase := .done }) stream2).producer.phase = .done
      ∧ ({ openedWith stream2 with extension := some 1 } : Stream).extension ≠ none
      ∧ ({ openedWith stream2 with budgetNow := 4294967287 } : Stream).budgetNow + (8#24).toNat ≤ 4294967295
      ∧ 4294967295 < ({ openedWith stream2 with budgetNow := 4294967288 } : Stream).budgetNow + (8#24).toNat := by
  decide +kernel

/-- AcknowledgeFollowsItsChecks. -/
theorem test_witness_acknowledge :
    Receiving (receiving bothOpen (.acknowledgeProducer 2)) (.acknowledgeProducer 2)
      ∧ Receiving (receiving bothOpen (.acknowledgeConsumer 2)) (.acknowledgeConsumer 2)
      ∧ (bothOpen.stream 0).state = .closed
      ∧ ((bothOpen.stream 2).producer.phase ≠ .overrun ∧ (bothOpen.stream 2).consumer.phase ≠ .underrun)
      ∧ (producing (fun ps => { ps with phase := .overrun }) stream2).producer.phase = .overrun
      ∧ (consuming (fun cs => { cs with phase := .underrun }) stream2).consumer.phase = .underrun := by decide +kernel

/-- OfferedNoticeIsPlacedOrCountedAsLost, at 30 and 31 records and with the LOST count at 254 and 255. -/
theorem test_witness_offered_notice :
    (List.replicate 30 (startedNotice 1#32)).length ≤ 30
      ∧ (31 ≤ (List.replicate 31 (startedNotice 1#32)).length
        ∧ List.replicate 31 (startedNotice 1#32) = List.replicate 30 (startedNotice 1#32) ++ [startedNotice 1#32]
        ∧ (startedNotice 1#32).kind ≠ .lost)
      ∧ ((lostRecord 7#8).kind = .lost ∧ { lostRecord 7#8 with value1 := 255#32 }.kind = .lost) := by decide +kernel

/-- TakeNoticeAndSetAlertMaskAnswer, with one record and with none. -/
theorem test_witness_take_notice :
    Receiving (receiving State.reset (.takeNotice 0xAA)) (.takeNotice 0xAA)
      ∧ State.reset.queue.records = startedNotice 1#32 :: [] ∧ NoticeQueue.reset.records = []
      ∧ Receiving (receiving State.reset (.setAlertMask 0 0xFFFF)) (.setAlertMask 0 0xFFFF) := by decide +kernel

/-- BindPaceFollowsItsChecks and UnbindPaceFreesTheLine. -/
theorem test_witness_bind_pace :
    Receiving (receiving bothOpen (.bindPace 7 2 1 4)) (.bindPace 7 2 1 4)
      ∧ (8 ≤ (8#8).toNat ∧ 64 < (65#8).toNat) ∧ (bothOpen.stream 3).state ≠ .opened
      ∧ ((bothOpen.stream 2).state = .opened ∧ (bothOpen.stream 2).desc.depth / 2 < (5#8).toNat
        ∧ (4#8).toNat ≤ (bothOpen.stream 2).desc.depth / 2)
      ∧ (bothOpen.line 7).state = .unbound
      ∧ (∀ m : LineId, (bothOpen.line m).state ≠ .unbound → (bothOpen.line m).stream = 2 →
          (bothOpen.line m).side ≠ .consumer)
      ∧ ((bothOpen.setLine 0 ⟨.watching, 2, .consumer, 4, 0⟩).line 0).state ≠ .unbound
      ∧ Receiving (receiving bothOpen (.unbindPace 7)) (.unbindPace 7) := by decide +kernel

/-- CommitOrConsumeCountsThePacket, with credit 2 and 1. -/
theorem test_witness_pace_count :
    (bothOpen.line 0).state = .unbound
      ∧ ((⟨.inPacket, 2, .producer, 4, 2⟩ : Line).state = .inPacket ∧ (2 ≤ (⟨.inPacket, 2, .producer, 4, 2⟩ : Line).credit)
        ∧ (⟨.inPacket, 2, .producer, 4, 1⟩ : Line).credit = 1)
      ∧ (⟨.watching, 2, .producer, 4, 0⟩ : Line).state = .watching
      ∧ (LineReady (standing 4 0 (openedWith stream2)) ⟨.watching, 2, .producer, 4, 0⟩
        ∧ ¬ LineReady (standing 5 0 (openedWith stream2)) ⟨.watching, 2, .producer, 4, 0⟩
        ∧ LineReady (standing 4 0 (openedWith stream2)) ⟨.watching, 2, .consumer, 4, 0⟩) := by decide +kernel

/-- ConfigurationCommandsFollowTheirChecks: BUSY, an even polynomial, dividers 0, 1, 64 and 65. -/
theorem test_witness_configuration :
    Receiving (receiving bothOpen (.setIntegrity 0 1 2)) (.setIntegrity 0 1 2)
      ∧ (∃ i : StreamId, (bothOpen.stream i).state ≠ .closed ∧ (bothOpen.stream i).desc.spanLength ≠ 0)
      ∧ (∀ i : StreamId, (State.reset.stream i).state ≠ .closed → (State.reset.stream i).desc.spanLength = 0)
      ∧ ((2#32).toNat % 2 = 0 ∧ (1#32).toNat % 2 = 1)
      ∧ Receiving (receiving State.reset (.setTimebase 0 64)) (.setTimebase 0 64)
      ∧ ((1#8) ≠ 0#8 ∧ (64#8).toNat ≤ 64 ∧ 64 < (65#8).toNat)
      ∧ Receiving (receiving State.reset (.reset 0)) (.reset 0) := by decide +kernel

/-- RequestsAreTakenByAnIdlePort, up to the last byte of the address space, and a port that is not IDLE. -/
theorem test_witness_requests :
    ((bothOpen.port 0).txn = none ∧ bothOpen.porHigh = true ∧ NothingDue bothOpen
        ∧ (0xFFFFFFC0#32).toNat % 4 = 0 ∧ (0xFFFFFFC0#32).toNat + 4 * 16 ≤ 0x100000000)
      ∧ ((withTxn bothOpen 1 (write2 0)).port 1).txn ≠ none
      ∧ bothOpen.classify 0 .read 0xFFFFFFC0#32 16 = .plain
      ∧ bothOpen.classify 3 .read 0x2004001C#32 1 = .observerPass (session 2)
      ∧ bothOpen.classify 2 .read 0x20040000#32 8 = .consumer (session 2) := by decide +kernel

/-- RefusedReadIsAnsweredErrorOnEveryBeat: one beat too many at the end of the address space, a straddle, a REFUSE. -/
theorem test_witness_refused_read :
    (PortsInForm bothOpen ∧ (bothOpen.port 3).txn = none ∧ 0x100000000 < (0xFFFFFFC4#32).toNat + 4 * 16)
      ∧ bothOpen.classify 3 .read 0x2004001C#32 2 = .straddle
      ∧ bothOpen.classify 3 .read 0x200412FC#32 1 = .observerRefuse (session 5) := by decide +kernel

/-- ClassFollowsTheTestsOfTheRange: the last word of the window, and a range that passes its end by one word. -/
theorem test_witness_class :
    TableInForm bothOpen ∧ InWindow bothOpen 0x2004001C 2 ∧ InWindow bothOpen 0x2004001F 2
      ∧ ¬ InWindow bothOpen 0x20040020 2 ∧ ¬ InWindow bothOpen 0x20040020 5 := by decide +kernel

/-- FirstDataBeatClassifiesTheWrite. -/
theorem test_witness_first_data_beat :
    WriteBeatDue (withTxn bothOpen 3 (transaction .write 0x1000#32 1 0 none)) 3 (transaction .write 0x1000#32 1 0 none)
      ∧ (transaction .write 0x1000#32 1 0 none).cls = none ∧ (0x1000#32).toNat % 4 = 0
      ∧ bothOpen.classify 3 .write 0x1000#32 1 = .plain
      ∧ bothOpen.classify 3 .write 0x2004001C#32 1 = .observerPass (session 2)
      ∧ bothOpen.classify 1 .write 0x20040000#32 8 = .producer (session 2)
      ∧ bothOpen.classify 1 .write 0x2004001C#32 2 = .straddle
      ∧ bothOpen.classify 3 .write 0x200412FC#32 1 = .observerRefuse (session 5) := by decide +kernel

/-- WriteBeatsOutsideThePathsAreDiscardedOrCarried, at the last beat. -/
theorem test_witness_write_beats :
    (PortsInForm (withTxn bothOpen 3 (transaction .write 0x1000#32 16 15 (some .straddle)))
        ∧ WriteBeatDue (withTxn bothOpen 3 (transaction .write 0x1000#32 16 15 (some .straddle))) 3
          (transaction .write 0x1000#32 16 15 (some .straddle)))
      ∧ (PortsInForm (withTxn bothOpen 3 (transaction .write 0x1000#32 16 15 (some .plain)))
        ∧ WriteBeatDue (withTxn bothOpen 3 (transaction .write 0x1000#32 16 15 (some .plain))) 3
          (transaction .write 0x1000#32 16 15 (some .plain))) := by decide +kernel

/-! ### The Producer Path -/

/-- Stream 2 with this record, and its producer's write at the base. -/
def writing (st : Stream) : State := withTxn (withRecord 2 st) 1 (write2 0)

/-- FrameStartWithRoomIsPlaced, with free room 1 and with slot 7 next. -/
theorem test_witness_frame_start_with_room :
    ProducerBeatDue (writing (standing 7 0 (openedWith stream2))) 1 2 (write2 0)
      ∧ ProducerFrameStart (writing (standing 7 0 (openedWith stream2))) 2 (write2 0)
      ∧ (standing 7 0 (openedWith stream2)).state = .opened
      ∧ (standing 7 0 (openedWith stream2)).producer.phase = .flowing
      ∧ (standing 7 0 (openedWith stream2)).atFrameLimit = false
      ∧ (standing 7 0 (openedWith stream2)).freeRoom = 1 := by decide +kernel

/-- A frame of two beats whose first has been forwarded. -/
def placing : Stream :=
  producing (fun ps => { ps with position := 4, treatment := .place, nextEntry := 1, inFlight := [⟨0, 0#32, 0, .filling, 1⟩] })
    waiting2

/-- A REAL frame of two beats whose first has been forwarded. -/
def reading : Stream :=
  standing 1 0 (consuming (fun cs =>
    { cs with position := 4, verdict := .real, nextEntry := 1, delivery := [⟨0, 0#32, 0, .reading, false⟩] }) waiting2)

/-- ContinuationBeatsGoToTheirFramesSlot, on both paths. -/
theorem test_witness_continuation :
    (ProducerBeatDue (withTxn (withRecord 2 placing) 1 (write2 1)) 1 2 (write2 1)
        ∧ beatOffset (withTxn (withRecord 2 placing) 1 (write2 1)) 2 (write2 1) = 4
        ∧ placing.producer.position = 4 ∧ placing.producer.treatment = .place
        ∧ placing.producer.inFlight = [] ++ [⟨0, 0#32, 0, .filling, 1⟩])
      ∧ (ConsumerBeatDue (withTxn (withRecord 2 reading) 2 (read2 1)) 2 2 (read2 1) ∧ TransactionInForm (read2 1)
        ∧ beatOffset (withTxn (withRecord 2 reading) 2 (read2 1)) 2 (read2 1) = 4
        ∧ reading.consumer.delivery = [] ++ [⟨0, 0#32, 0, .reading, false⟩]) := by decide +kernel

/-- FramesTakenAsExcessOrInTheOverrunAreAbsorbed: at the frame limit, DONE, DRAINING, and in OVERRUN below the level. -/
theorem test_witness_absorbed_frames :
    (ProducerBeatDue (writing (standing 20 20 (openedWith stream2))) 1 2 (write2 0)
        ∧ ProducerFrameStart (writing (standing 20 20 (openedWith stream2))) 2 (write2 0)
        ∧ (standing 20 20 (openedWith stream2)).atFrameLimit = true)
      ∧ ({ openedWith stream2 with state := .draining } : Stream).state ≠ .opened
      ∧ (ProducerBeatDue (writing (standing 6 0 (producing (fun ps => { ps with phase := .overrun }) stream2))) 1 2
          (write2 0)
        ∧ (standing 6 0 (producing (fun ps => { ps with phase := .overrun }) stream2)).freeRoom
          < (openedWith stream2).desc.restartLevel) := by decide +kernel

/-- FrameStartWithoutRoomFollowsTheFullPolicy, under ABSORB and under STALL. -/
theorem test_witness_full_ring :
    (ProducerBeatDue (writing (standing 8 0 (openedWith stream2))) 1 2 (write2 0)
        ∧ ProducerFrameStart (writing (standing 8 0 (openedWith stream2))) 2 (write2 0)
        ∧ (standing 8 0 (openedWith stream2)).freeRoom = 0 ∧ (standing 8 0 (openedWith stream2)).atFrameLimit = false
        ∧ (openedWith stream2).desc.fullPolicy = .absorb)
      ∧ (ProducerBeatDue (writing (standing 8 0 (openedWith waiting2))) 1 2 (write2 0)
        ∧ (standing 8 0 (openedWith waiting2)).freeRoom = 0 ∧ (openedWith waiting2).desc.fullPolicy = .stall) := by
  decide +kernel

/-- OverrunResumesWithRoomAndConsent, with free room equal to restart_level. -/
theorem test_witness_overrun_resumes :
    ProducerBeatDue
        (writing (standing 5 0 { producing (fun ps => { ps with phase := .overrun }) stream2 with overrunAcked := true }))
        1 2 (write2 0)
      ∧ (standing 5 0 { producing (fun ps => { ps with phase := .overrun }) stream2 with overrunAcked := true }).freeRoom
        = (openedWith stream2).desc.restartLevel := by decide +kernel

/-- Stream 2 with `n` frames committed and its producer HELD, and a line on the producer side that watches for one frame. -/
def stalled (n : Nat) : State :=
  (withTxn (withRecord 2 (standing n 0 (producing (fun ps => { ps with phase := .held }) waiting2))) 1
    { write2 1 with hold := some ⟨1, 0, 5#32⟩ }).setLine 0 ⟨.watching, 2, .producer, 1, 0⟩

/-- OverrunResumesWithRoomAndConsent, the room event: a held write of an OPEN stream, and a producer that is not HELD. -/
theorem test_witness_room_event :
    ((stalled 7).stream 2).state = .opened ∧ ((stalled 7).stream 2).producer.phase = .held
      ∧ ((stalled 7).port 1).txn = some { write2 1 with hold := some ⟨1, 0, 5#32⟩ }
      ∧ { write2 1 with hold := some ⟨1, 0, 5#32⟩ }.cls = some (.producer ((stalled 7).binding 2))
      ∧ (bothOpen.stream 2).producer.phase ≠ .held := by decide +kernel

/-- R129: the side's return to FLOWING is tested against the free room after the placed frame: with room for that frame only
a line with a packet of 1 stays WATCHING, and with room for one more it is granted and the frame begins its packet. -/
theorem test_held_release_tests_after_the_placed_frame :
    (((stalled 7).roomEvent 2).line 0).state = .watching ∧ (((stalled 6).roomEvent 2).line 0).state = .inPacket := by
  decide +kernel

/-- BeatsOutOfPlaceOnTheProducerPath: partial, misplaced, early, lost, and a continuation of an absorbed frame. -/
theorem test_witness_beats_out_of_place :
    (ProducerBeatDue (withTxn (withRecord 2 placing) 1 (write2 1)) 1 2 (write2 1) ∧ (0x7#4) ≠ 0xF#4)
      ∧ (ProducerBeatDue (withTxn (withRecord 2 (openedWith waiting2)) 1 (write2 1)) 1 2 (write2 1)
        ∧ beatOffset (withTxn (withRecord 2 (openedWith waiting2)) 1 (write2 1)) 2 (write2 1) ≠ 0
        ∧ beatOffset (withTxn (withRecord 2 (openedWith waiting2)) 1 (write2 1)) 2 (write2 1)
          ≠ (openedWith waiting2).producer.position)
      ∧ (ProducerBeatDue (withTxn (withRecord 2 placing) 1 (write2 0)) 1 2 (write2 0)
        ∧ beatOffset (withTxn (withRecord 2 placing) 1 (write2 0)) 2 (write2 0) = 0 ∧ placing.producer.position ≠ 0)
      ∧ (ProducerBeatDue (withTxn (withRecord 2 { placing with state := .draining }) 1 (write2 0)) 1 2 (write2 0)
        ∧ ({ placing with state := .draining } : Stream).producer.placement = .inStep)
      ∧ (producing (fun ps => { ps with placement := .lost }) waiting2).producer.placement = .lost
      ∧ (producing (fun ps => { ps with treatment := .absorb, position := 4 }) waiting2).producer.position
        = beatOffset (withTxn (withRecord 2 (producing (fun ps => { ps with treatment := .absorb, position := 4 }) waiting2))
            1 (write2 1)) 2 (write2 1) := by decide +kernel

/-- AbandonmentReturnsToTheFirstAbandonedFrame: the only entry. -/
theorem test_witness_abandonment :
    0 < ((withRecord 2 placing).stream 2).producer.inFlight.length
      ∧ [⟨0, 0#32, 0, .filling, 1⟩] = ((withRecord 2 placing).stream 2).producer.inFlight.drop 0
      ∧ (SpanState.fresh 0xFFFFFFFF#32).producerStart.producerRecords
        = [] ++ { checkpoint := 0xFFFFFFFF#32, spanCrc := none } :: [] := by decide +kernel

/-- PlacedFrameNeverOverwritesAFrame, with one slot free. -/
theorem test_witness_placed_frame :
    RingInForm (standing 7 0 (openedWith stream2)) ∧ 1 ≤ (standing 7 0 (openedWith stream2)).freeRoom := by
  decide +kernel

/-- HoldTimerExpiryBeginsTheCondition: a producer's and a consumer's hold at the limit, and one below it. -/
theorem test_witness_expiry :
    ((writing (openedWith waiting2)).stream 2).state ≠ .closed
      ∧ (({ write2 1 with hold := some ⟨1, 1, 0⟩ } : Transaction).cls
          = some (.producer ((writing (openedWith waiting2)).binding 2))
        ∧ (⟨1, 1, 0⟩ : Hold).limit ≤ (⟨1, 1, 0⟩ : Hold).count)
      ∧ (readOwing2.cls = some (.consumer ((writing (openedWith waiting2)).binding 2))
        ∧ (⟨255, 255, 0⟩ : Hold).limit ≤ (⟨255, 255, 0⟩ : Hold).count)
      ∧ (⟨255, 254, 0⟩ : Hold).count < (⟨255, 254, 0⟩ : Hold).limit := by decide +kernel

/-! ### The Consumer Path -/

/-- Stream 2 with this record, and its consumer's read at the base. -/
def serving (st : Stream) : State := withTxn (withRecord 2 st) 2 (read2 0)

/-- FrameStartWithAFrameAvailableIsReal, with one frame available. -/
theorem test_witness_frame_available :
    ConsumerBeatDue (serving (standing 1 0 (openedWith stream2))) 2 2 (read2 0) ∧ TransactionInForm (read2 0)
      ∧ ConsumerFrameStart (serving (standing 1 0 (openedWith stream2))) 2 (read2 0)
      ∧ (standing 1 0 (openedWith stream2)).available = 1
      ∧ (standing 1 0 (openedWith stream2)).consumer.phase = .flowing := by decide +kernel

/-- FrameStartWithNothingAvailableFollowsTheEmptyPolicy: deferred, held, filled. -/
theorem test_witness_nothing_available :
    (ConsumerBeatDue (serving (openedWith stream2)) 2 2 (read2 0)
        ∧ ConsumerFrameStart (serving (openedWith stream2)) 2 (read2 0) ∧ (openedWith stream2).available = 0
        ∧ (openedWith stream2).consumer.delivery = [] ∧ (openedWith stream2).desc.emptyPolicy = .fill)
      ∧ (openedWith waiting2).desc.emptyPolicy = .wait
      ∧ (reading.available = 0 ∧ reading.consumer.delivery ≠ []) := by decide +kernel

/-- UnderrunGoesOnWithoutFramesOrConsent and UnderrunResumesWithFramesAndConsent, at restart_level and one below it. -/
theorem test_witness_underrun :
    ConsumerBeatDue (serving (standing 2 0 (consuming (fun cs => { cs with phase := .underrun }) stream2))) 2 2 (read2 0)
      ∧ ConsumerFrameStart (serving (standing 2 0 (consuming (fun cs => { cs with phase := .underrun }) stream2))) 2 (read2 0)
      ∧ (standing 2 0 (consuming (fun cs => { cs with phase := .underrun }) stream2)).occupancy
        < (openedWith stream2).desc.restartLevel
      ∧ ((standing 3 0 { consuming (fun cs => { cs with phase := .underrun }) stream2 with underrunAcked := true }).occupancy
          = (openedWith stream2).desc.restartLevel
        ∧ (consuming (fun cs => { cs with phase := .underrun }) stream2).consumer.heldSlot = none
        ∧ (consuming (fun cs => { cs with phase := .underrun, heldSlot := some 7 }) stream2).consumer.heldSlot ≠ none)
      ∧ (({ consuming (fun cs => { cs with phase := .underrun }) stream2 with state := .draining } : Stream).occupancy = 0
        ∧ (standing 1 0 { openedWith stream2 with state := .draining }).occupancy = 1) := by decide +kernel

/-- FillFrameIsAnsweredByTheFillMode, in each mode. -/
theorem test_witness_fill_mode :
    ((serving (openedWith stream5)).port 2).txn = some (read2 0)
      ∧ (openedWith stream5).desc.fillMode = .zero
      ∧ (openedWith { stream5 with fillMode := 1 }).desc.fillMode = .constant
      ∧ ((openedWith stream2).desc.fillMode = .hold ∧ (openedWith stream2).consumer.holdSource = .word)
      ∧ ((consuming (fun cs => { cs with heldSlot := some 7, holdSource := .slot }) stream2).consumer.heldSlot = some 7) := by
  decide +kernel

/-- A fill frame of two beats whose first has been answered. -/
def filling : Stream :=
  consuming (fun cs => { cs with phase := .underrun, position := 4, verdict := .fill, heldSlot := some 7, holdSource := .slot })
    waiting2

/-- FillFrameIsAnsweredByTheFillMode, a continuation beat. -/
theorem test_witness_fill_continuation :
    ConsumerBeatDue (withTxn (withRecord 2 filling) 2 (read2 1)) 2 2 (read2 1) ∧ TransactionInForm (read2 1)
      ∧ filling.state ≠ .ended ∧ beatOffset (withTxn (withRecord 2 filling) 2 (read2 1)) 2 (read2 1) = 4
      ∧ filling.consumer.placement = .inStep ∧ filling.consumer.position = 4 ∧ filling.consumer.verdict = .fill
      ∧ (filling.desc.fillMode = .hold ∧ filling.consumer.holdSource = .slot ∧ filling.consumer.heldSlot = some 7) := by
  decide +kernel

/-- A REAL frame of three beats whose first has been forwarded, with the accumulator's checkpoint taken. -/
def readingThree : Stream :=
  { standing 1 0 (consuming (fun cs =>
      { cs with position := 4, verdict := .real, nextEntry := 1, delivery := [⟨0, 0#32, 0, .reading, false⟩] })
      { waiting2 with channels := 6 }) with
    span := some { SpanState.fresh 7#32 with consumerAcc := 9#32, consumerRecord := some (.value 7#32) } }

/-- ReadsOutsideFramesAreAnsweredWithFillWord: a misplaced and an early read inside a REAL frame. -/
theorem test_witness_reads_inside_a_real_frame :
    (ConsumerBeatDue (withTxn (withRecord 2 readingThree) 2 (read2 2)) 2 2 (read2 2)
        ∧ beatOffset (withTxn (withRecord 2 readingThree) 2 (read2 2)) 2 (read2 2) = 8
        ∧ readingThree.consumer.position ≠ 8 ∧ readingThree.consumer.position ≠ 0
        ∧ readingThree.consumer.verdict = .real ∧ readingThree.consumer.placement = .inStep)
      ∧ beatOffset (withTxn (withRecord 2 readingThree) 2 (read2 0)) 2 (read2 0) = 0 := by decide +kernel

/-- R78, R119: the misplaced read ends the REAL frame and takes its data out of the accumulator. -/
theorem test_misplaced_read_restores_the_accumulator :
    after (.readBeat 2) (withTxn (withRecord 2 readingThree) 2 (read2 2))
        (fun t => ((t.stream 2).consumer.delivery, (t.stream 2).span.map (·.consumerAcc),
          (t.queue.records.getLast?).map fun n => (n.kind, n.value1)))
      = some ([], some 7#32, some (.place, 2#32)) := by decide +kernel

/-- ReadsOutsideFramesAreAnsweredWithFillWord: ENDED, LOST, a closed session, and a misplaced read. -/
theorem test_witness_reads_outside_frames :
    TransactionInForm (read2 1)
      ∧ ConsumerBeatDue (withTxn (withRecord 2 { openedWith waiting2 with state := .ended }) 2 (read2 1)) 2 2 (read2 1)
      ∧ (consuming (fun cs => { cs with placement := .lost }) waiting2).consumer.placement = .lost
      ∧ (ReadBeatDue (withTxn State.reset 2 (read2 1)) 2 (read2 1)
        ∧ ((withTxn State.reset 2 (read2 1)).stream 2).state = .closed)
      ∧ (ConsumerBeatDue (withTxn (withRecord 2 (openedWith waiting2)) 2 (read2 1)) 2 2 (read2 1)
        ∧ beatOffset (withTxn (withRecord 2 (openedWith waiting2)) 2 (read2 1)) 2 (read2 1) = 4
        ∧ (openedWith waiting2).consumer.position ≠ 4 ∧ (openedWith waiting2).consumer.verdict ≠ .real) := by
  decide +kernel

/-! ### Memory results, commits and spans -/

/-- Two frames of stream 2 in flight, their segment on the memory port. -/
def twoInFlight : Stream :=
  producing (fun ps =>
    { ps with nextEntry := 2, inFlight := [⟨0, 0#32, 0, .sealed, 1⟩, ⟨1, 1#32, 1, .sealed, 1⟩] })
    { stream2 with spanLength := 0 }

/-- The segment of the two frames. -/
def twoFrames : Granted :=
  { owner := 1, answered := 0, discarded := false
    segment :=
      { kind := .producer, dir := .write, addr := 0x20040000#32, binding := some (session 2)
        beats := [⟨0, some (5#32, 0xF#4), 0#32, 0, true⟩, ⟨1, some (6#32, 0xF#4), 1#32, 1, true⟩] } }

/-- The part with that segment on its memory port. -/
def carrying : State :=
  { withTxn (withRecord 2 twoInFlight) 1 { write2 2 with outstanding := 2 } with memory := some twoFrames }

/-- OkayCompletionCommitsTheFramesItEnds, with both frames. -/
theorem test_witness_okay_completion :
    PortsInForm carrying ∧ ResponsesInForm carrying
      ∧ carrying.memory = some twoFrames ∧ twoFrames.writeReady = true ∧ twoFrames.discarded = false
      ∧ twoFrames.segment.binding = some (carrying.binding 2) ∧ (carrying.stream 2).state ≠ .closed
      ∧ (carrying.stream 2).producerCursor < (carrying.stream 2).desc.depth
      ∧ ((carrying.stream 2).producer.inFlight.map (·.id)).Nodup
      ∧ (twoFrames.segment.beats.filter (·.last)).map (·.entry)
        = ((carrying.stream 2).producer.inFlight.take 2).map (·.id)
      ∧ 2 ≤ (carrying.stream 2).producer.inFlight.length := by decide +kernel

/-- OkayCompletionCommitsTheFramesItEnds: a beat of an entry in the list and one of none, a held read and a deferred one. -/
theorem test_witness_commit :
    ((∃ e ∈ (carrying.stream 2).producer.inFlight, e.id = 0) ∧ ∀ e ∈ (carrying.stream 2).producer.inFlight, e.id ≠ 2)
      ∧ ((consuming (fun cs => { cs with phase := .waiting }) waiting2).consumer.phase = .waiting
        ∧ (openedWith waiting2).desc.consumerPort = 2
        ∧ { readOwing2 with hold := some ⟨255, 0, 0#32⟩ }.cls
          = some (.consumer ((withRecord 2 (openedWith waiting2)).binding 2)))
      ∧ (bothOpen.stream 2).consumer.phase ≠ .waiting
      ∧ ({ readOwing2 with deferred := true }.deferred = true ∧ 1 ≤ readOwing2.position
        ∧ readOwing2.position ≤ readOwing2.beats ∧ readOwing2.hold = none
        ∧ readOwing2.responses = [] ++ [{ beat := readOwing2.position - 1, mark := none, value := none }]
        ∧ (openedWith stream2).consumer.placement = .inStep ∧ (openedWith stream2).consumer.position = 0
        ∧ beatOffset bothOpen 2 { readOwing2 with position := readOwing2.position - 1 } = 0) := by decide +kernel

/-- R81: a commit decides the deferred beat as a REAL frame: its read of slot 0 goes to the memory port. -/
theorem test_commit_decides_a_deferred_read :
    ((withTxn (withRecord 2 (producing (fun ps => { ps with inFlight := [⟨0, 0#32, 0, .sealed, 0⟩] }) stream2)) 2
        { readOwing2 with deferred := true }).commit 2).memory.map (fun g => (g.owner, g.segment.kind, g.segment.addr))
      = some (2, .real, 0x20040000#32) := by decide +kernel

/-- Section 3.11: the completion of such a segment commits both frames, one after another. -/
theorem test_okay_completion_commits_two_frames :
    after (.memoryWriteCompletion .okay) carrying
        (fun t => ((t.stream 2).committed, (t.stream 2).producerCursor, (t.stream 2).producer.inFlight, t.memory))
      = some (2#32, 2, [], none) := by decide +kernel

/-- R53: an ERROR completion abandons both and posts one MEMFAULT with the oldest index. -/
theorem test_error_completion_abandons_two_frames :
    after (.memoryWriteCompletion .error) carrying
        (fun t => ((t.stream 2).committed, (t.stream 2).producer.inFlight, (t.stream 2).counters.memoryFaults,
          (t.queue.records.getLast?).map fun n => (n.kind, n.value1)))
      = some (0#32, [], 1#16, some (.memfault, 0#32)) := by decide +kernel

/-- WriteResultGoesWhereItsKindSays: a discarded result, an error with and without an entry in the list. -/
theorem test_witness_write_result :
    ({ twoFrames with discarded := true }.discarded = true ∧ { twoFrames with discarded := true }.writeReady = true)
      ∧ ((carrying.stream 2).producer.inFlight = [] ++ ⟨0, 0#32, 0, .sealed, 1⟩ :: [⟨1, 1#32, 1, .sealed, 1⟩]
        ∧ (∃ y ∈ twoFrames.segment.beats, y.entry = 0))
      ∧ (∀ y ∈ twoFrames.segment.beats, ∀ f ∈ (openedWith stream2).producer.inFlight, y.entry ≠ f.id) := by
  decide +kernel

/-- A read segment of one beat of this kind on port 2's behalf. -/
def readOn (kind : SegmentKind) (discarded : Bool) : Granted :=
  { owner := 2, answered := 0, discarded := discarded
    segment := { kind := kind, dir := .read, addr := 0x20040000#32, binding := some (session 2)
                 beats := [⟨0, none, 0#32, 0, true⟩] } }

/-- ReadDataGoesWhereItsKindSays, for each kind. -/
theorem test_witness_read_data :
    (readOn .real false).segment.dir = .read
      ∧ (readOn .real false).segment.beats.drop (readOn .real false).answered = ⟨0, none, 0#32, 0, true⟩ :: []
      ∧ (readOn .real true).discarded = true ∧ (readOn .plain false).segment.kind = .plain
      ∧ ((readOn .hold false).segment.kind = .hold ∧ (readOn .hold false).segment.binding = some (session 2)) := by
  decide +kernel

/-- A consumer read with one response known, that of a REAL beat, and one owed. -/
def readKnown2 : Transaction :=
  { read2 2 with
    responses := [{ beat := 0, mark := some ⟨0, 0#32, true⟩, value := some (okayResponse 5#32) },
      { beat := 1, mark := none, value := none }] }

/-- ReadDataGoesWhereItsKindSays: a response due, on a port above ports with none, and none due anywhere. -/
theorem test_witness_settle :
    ((∀ q : PortId, ∀ y ∈ ((withTxn bothOpen 2 readKnown2).port q).txn, TransactionInForm y)
        ∧ ((withTxn bothOpen 2 readKnown2).port 2).txn = some readKnown2
        ∧ (∀ q : PortId, q.val < (2 : PortId).val → ((withTxn bothOpen 2 readKnown2).port q).responseDue = none)
        ∧ readKnown2.cls = some (.consumer (session 2)))
      ∧ ((∀ p : PortId, ((withTxn bothOpen 1 (write2 4)).port p).responseDue = none) ∧ (write2 4).position = (write2 4).beats
        ∧ (write2 4).outstanding = 0 ∧ (write2 3).position ≠ (write2 3).beats) := by decide +kernel

/-- ReturnOfTheLastBeatConsumesTheFrame, a consume and what it hands on: faulted and not, deferred and not drained. -/
theorem test_witness_consume :
    ((∃ e ∈ reading.consumer.delivery, e.id = 0 ∧ e.faulted = false) ∧ ∀ e ∈ reading.consumer.delivery, e.id ≠ 5)
      ∧ (true = decide (∃ e ∈ reading.consumer.delivery.getLast?, e.id = 0))
      ∧ (∀ e ∈ [(⟨0, 0#32, 0, .reading, true⟩ : Delivery)], e.id = 0 → e.faulted = true)
      ∧ reading.consumer.delivery = ⟨0, 0#32, 0, .reading, false⟩ :: []
      ∧ bothOpen.hasDeferred 2 = false
      ∧ ((withTxn bothOpen 2 { readOwing2 with deferred := true }).hasDeferred 2 = true
        ∧ (bothOpen.stream 2).consumer.delivery = [] ∧ (bothOpen.stream 2).state ≠ .draining) := by decide +kernel

/-- ReturnOfTheLastBeatConsumesTheFrame: a live session with its last entry, a closed one, and the meeting of R108. -/
theorem test_witness_last_beat :
    ((withRecord 2 reading).live (session 2) = true
        ∧ ((withRecord 2 reading).stream 2).consumer.delivery = ⟨0, 0#32, 0, .reading, false⟩ :: []
        ∧ (∃ f ∈ reading.consumer.delivery, f.id = 0))
      ∧ State.reset.live (session 2) = false
      ∧ ((withTxn (withRecord 2 { openedWith stream2 with state := .draining }) 2
            { readOwing2 with deferred := true }).hasDeferred 2 = true
        ∧ ({ openedWith stream2 with state := .draining } : Stream).consumer.phase = .flowing) := by decide +kernel

/-- BudgetAndEndTestsActAtTheLimit, at the limit with and without an extension. -/
theorem test_witness_budget :
    (bothOpen.stream 5).desc.budget = 0
      ∧ ((standing 20 20 (openedWith stream2)).desc.budget ≠ 0
        ∧ (standing 20 20 (openedWith stream2)).committed.toNat = (standing 20 20 (openedWith stream2)).budgetNow
        ∧ (standing 20 20 { openedWith stream2 with extension := some 8 }).extension = some 8)
      ∧ (standing 20 20 (producing (fun ps => { ps with phase := .done }) stream2)).consumed.toNat
        = (standing 20 20 (producing (fun ps => { ps with phase := .done }) stream2)).budgetNow := by decide +kernel

/-- CompletedSpanIsComparedUnlessVoid: slots 2 and 3 of span 0, an equal and an unequal record. -/
theorem test_witness_span :
    ((openedWith stream2).span = some (SpanState.fresh 0xFFFFFFFF#32)
        ∧ (2 + 1) % (openedWith stream2).desc.spanLength ≠ 0 ∧ (3 + 1) % (openedWith stream2).desc.spanLength = 0)
      ∧ ({ SpanState.fresh 0xFFFFFFFF#32 with queue := [⟨0#32, 0xFFFFFFFF#32⟩] }.queue = ⟨0#32, 0xFFFFFFFF#32⟩ :: []
        ∧ (⟨0#32, 0xFFFFFFFF#32⟩ : SpanRecord).crc = (SpanState.fresh 0xFFFFFFFF#32).consumerAcc
        ∧ (⟨0#32, 5#32⟩ : SpanRecord).crc ≠ (SpanState.fresh 0xFFFFFFFF#32).consumerAcc
        ∧ { SpanState.fresh 0xFFFFFFFF#32 with spanVoid := true }.spanVoid = true)
      ∧ ((SpanState.fresh 7#32).producerStart.producerRecords = [] ++ [⟨7#32, none⟩]
        ∧ (SpanState.fresh 7#32).consumerStart.consumerRecord = some .unset
        ∧ (SpanState.fresh 7#32).consumerRecord ≠ some .unset) := by decide +kernel

/-- SegmentsGrowAndTheArbiterGrantsInCyclicOrder: a segment of 15 beats that takes one more, and one of 16 that does not. -/
theorem test_witness_segments :
    ((List.replicate 15 (⟨0, none, 0#32, 0, false⟩ : SegmentBeat)).length < 16
        ∧ 16 ≤ (List.replicate 16 (⟨0, none, 0#32, 0, false⟩ : SegmentBeat)).length)
      ∧ (carrying.memory ≠ none ∧ State.reset.memory = none)
      ∧ ((State.reset.modPort 0 fun port => { port with segments := [twoFrames.segment] }).port 0).segments
        = twoFrames.segment :: [] ∧ (0 : PortId).val = (State.reset.lastGranted.val + 1 + 0) % 4 := by decide +kernel

/-- The EveryStepKeeps statements: a state with a stream open, frames in flight and a segment on the memory port. -/
theorem test_witness_forms :
    NoticesInForm carrying.queue ∧ TableInForm carrying ∧ LinesInForm carrying ∧ PortsInForm carrying
      ∧ ResponsesInForm carrying ∧ RingsInForm carrying ∧ BudgetsInForm carrying ∧ PinsInForm carrying := by decide +kernel

/-- A step from that state: while no command waits, a REFCLK period. -/
theorem test_a_step_is_taken :
    (match step carrying with
      | .next t => t.timebase.count
      | .fault _ => 99
      | .refused _ => 99) = 1 := by decide +kernel

end Sys2Proof.Tests
end

namespace Sys2Proof.Machine

open Sys2Proof Sys2Proof.Safety

/-! ## The ring of a stream, and the claims of the ports

The forms of the Stream Table, the rings and the budgets (O54, O57, O58) read a small part of the state: of a stream its
descriptor, its counts and cursors, its phases, and of its two lists the index and slot of each entry; of a port the class of
its transaction and whether a beat is held. `State.core` is that part. Each operation of the model is first shown to act on
the core by one of a few ring operations, and the forms are then proved of those. -/

/-- The part of a stream record that the forms of the ring and of the budget read; an entry of a list is its frame index
and its slot. -/
structure Ring where
  desc : Descriptor
  state : StreamState
  session : Nat
  committed : Word
  consumed : Word
  producerCursor : Nat
  consumerCursor : Nat
  budgetNow : Nat
  extension : Option Nat
  producerPhase : ProducerPhase
  consumerPhase : ConsumerPhase
  inFlight : List (Word × Nat)
  delivery : List (Word × Nat)
  heldSlot : Option Nat

/-- The index and slot of an in-flight frame. -/
def InFlight.place (e : InFlight) : Word × Nat := (e.index, e.slot)

/-- The index and slot of a frame in delivery. -/
def Delivery.place (e : Delivery) : Word × Nat := (e.index, e.slot)

/-- The ring of a stream record. -/
def Stream.ring (st : Stream) : Ring :=
  { desc := st.desc, state := st.state, session := st.session, committed := st.committed, consumed := st.consumed,
    producerCursor := st.producerCursor, consumerCursor := st.consumerCursor, budgetNow := st.budgetNow,
    extension := st.extension, producerPhase := st.producer.phase, consumerPhase := st.consumer.phase,
    inFlight := st.producer.inFlight.map InFlight.place, delivery := st.consumer.delivery.map Delivery.place,
    heldSlot := st.consumer.heldSlot }

/-! ### What the ring of a stream record reads -/

@[simp] theorem Stream.ring_desc (st : Stream) : st.ring.desc = st.desc := rfl
@[simp] theorem Stream.ring_state (st : Stream) : st.ring.state = st.state := rfl
@[simp] theorem Stream.ring_session (st : Stream) : st.ring.session = st.session := rfl
@[simp] theorem Stream.ring_committed (st : Stream) : st.ring.committed = st.committed := rfl
@[simp] theorem Stream.ring_consumed (st : Stream) : st.ring.consumed = st.consumed := rfl
@[simp] theorem Stream.ring_producerCursor (st : Stream) : st.ring.producerCursor = st.producerCursor := rfl
@[simp] theorem Stream.ring_consumerCursor (st : Stream) : st.ring.consumerCursor = st.consumerCursor := rfl
@[simp] theorem Stream.ring_budgetNow (st : Stream) : st.ring.budgetNow = st.budgetNow := rfl
@[simp] theorem Stream.ring_extension (st : Stream) : st.ring.extension = st.extension := rfl
@[simp] theorem Stream.ring_producerPhase (st : Stream) : st.ring.producerPhase = st.producer.phase := rfl
@[simp] theorem Stream.ring_consumerPhase (st : Stream) : st.ring.consumerPhase = st.consumer.phase := rfl
@[simp] theorem Stream.ring_inFlight (st : Stream) : st.ring.inFlight = st.producer.inFlight.map InFlight.place := rfl
@[simp] theorem Stream.ring_delivery (st : Stream) : st.ring.delivery = st.consumer.delivery.map Delivery.place := rfl
@[simp] theorem Stream.ring_heldSlot (st : Stream) : st.ring.heldSlot = st.consumer.heldSlot := rfl

namespace Ring

/-- R5: occupancy. -/
def occupancy (r : Ring) : Nat := (r.committed - r.consumed).toNat

/-- R60: usable depth. -/
def usableDepth (r : Ring) : Nat := if r.heldSlot.isSome then r.desc.depth - 1 else r.desc.depth

/-- R45: the frame limit of a budgeted stream. -/
def limit (r : Ring) : Nat := r.budgetNow + r.extension.getD 0

/-- R45: a budgeted stream has not placed frames up to its frame limit. -/
def BelowLimit (r : Ring) : Prop :=
  r.desc.budget ≠ 0 → r.committed.toNat + r.inFlight.length < r.limit

/-- R28: the binding of the running session of stream `i`. -/
def binding (r : Ring) (i : StreamId) : Binding := { stream := i, session := r.session, fillWord := r.desc.fillWord }

/-! ### What the operations of the model do to a ring -/

/-- The producer phase is set. -/
def withProducerPhase (ph : ProducerPhase) (r : Ring) : Ring := { r with producerPhase := ph }

/-- The consumer phase is set. -/
def withConsumerPhase (ph : ConsumerPhase) (r : Ring) : Ring := { r with consumerPhase := ph }

/-- R44: a frame start is placed. -/
def place (r : Ring) : Ring :=
  { r with
    inFlight := r.inFlight ++
      [(r.committed + BitVec.ofNat 32 r.inFlight.length, (r.producerCursor + r.inFlight.length) % r.desc.depth)] }

/-- R82: a REAL frame starts. -/
def deliver (r : Ring) : Ring :=
  { r with
    delivery := r.delivery ++
      [(r.consumed + BitVec.ofNat 32 r.delivery.length, (r.consumerCursor + r.delivery.length) % r.desc.depth)] }

/-- R52: the in-flight frames from the `n`-th on are abandoned. -/
def keep (n : Nat) (r : Ring) : Ring := { r with inFlight := r.inFlight.take n }

/-- R79: the newest frame in delivery is abandoned. -/
def undeliver (r : Ring) : Ring := { r with delivery := r.delivery.dropLast }

/-- R49: the oldest in-flight frame commits. -/
def commitOldest (r : Ring) : Ring :=
  { r with
    committed := r.committed + 1#32
    producerCursor := nextSlot r.desc r.producerCursor
    inFlight := r.inFlight.drop 1 }

/-- R98: the committed count has reached budget_now. -/
abbrev Spent (r : Ring) : Prop := r.desc.budget ≠ 0 ∧ r.committed.toNat = r.budgetNow

/-- R98: the budget test: where budget_now is reached, an extension is taken up, or else the producer is DONE. -/
def budgeted (r : Ring) : Ring :=
  { r with
    budgetNow := if r.Spent then r.limit else r.budgetNow
    extension := if r.Spent then none else r.extension
    producerPhase := if r.Spent ∧ r.extension = none then .done else r.producerPhase }

/-- R83: the oldest frame in delivery is consumed. -/
def consumeOldest (r : Ring) : Ring :=
  { r with
    consumed := r.consumed + 1#32
    consumerCursor := nextSlot r.desc r.consumerCursor
    delivery := r.delivery.drop 1 }

/-- R103: the stream is ENDED. -/
def ended (r : Ring) : Ring := { r with state := .ended, consumerPhase := .done }

/-- R87: the held slot is reserved, or it is not, as `slot` says. -/
def withHeldSlot (slot : Option Nat) (r : Ring) : Ring := { r with heldSlot := slot }

/-- R86, R87: the underrun condition begins, with the held slot `slot`. -/
def underrun (slot : Option Nat) (r : Ring) : Ring := { r with consumerPhase := .underrun, heldSlot := slot }

/-- R100: an extension is registered. -/
def extend (n : Nat) (r : Ring) : Ring := { r with extension := some n }

/-- R106: the stream drains. -/
def drain (r : Ring) : Ring := { r with state := .draining }

/-- R11: the stream becomes CLOSED. -/
def close (r : Ring) : Ring :=
  { r with state := .closed, extension := none, inFlight := [], delivery := [], heldSlot := none }

/-- R17: the ring of a stream just opened. -/
def opened (d : Descriptor) (session : Nat) : Ring :=
  { desc := d, state := .opened, session := session, committed := 0#32, consumed := 0#32, producerCursor := 0,
    consumerCursor := 0, budgetNow := d.budget, extension := none, producerPhase := .flowing,
    consumerPhase := .flowing, inFlight := [], delivery := [], heldSlot := none }

end Ring

@[simp] theorem Stream.ring_occupancy (st : Stream) : st.ring.occupancy = st.occupancy := rfl
@[simp] theorem Stream.ring_usableDepth (st : Stream) : st.ring.usableDepth = st.usableDepth := rfl
@[simp] theorem Stream.ring_limit (st : Stream) : st.ring.limit = st.budgetNow + st.extension.getD 0 := rfl
@[simp] theorem State.ring_binding (s : State) (i : StreamId) : (s.stream i).ring.binding i = s.binding i := rfl

/-- What the forms read of a port's transaction: its class, and whether its newest beat is held. -/
structure Claim where
  cls : Option TransactionClass
  held : Bool

/-- R27: the hold ends. -/
def Claim.release (k : Claim) : Claim := { k with held := false }

/-- R25: the newest beat is held. -/
def Claim.hold (k : Claim) : Claim := { k with held := true }

/-- The claim of a transaction. -/
def Transaction.claim (t : Transaction) : Claim := { cls := t.cls, held := t.hold.isSome }

/-- The claim of a port, if it is not IDLE. -/
def Port.claim (port : Port) : Option Claim := port.txn.map Transaction.claim

/-- The rings of the streams and the claims of the ports. -/
@[ext] structure Core where
  ring : StreamId → Ring
  claim : PortId → Option Claim

/-- The core of a state. -/
def State.core (s : State) : Core := { ring := fun i => (s.stream i).ring, claim := fun p => (s.port p).claim }

namespace Core

/-- The ring of stream `i` is changed. -/
def modRing (c : Core) (i : StreamId) (f : Ring → Ring) : Core :=
  { c with ring := Function.update c.ring i (f (c.ring i)) }

/-- The claim of port `p`, if there is one, is changed. -/
def modClaim (c : Core) (p : PortId) (f : Claim → Claim) : Core :=
  { c with claim := Function.update c.claim p ((c.claim p).map f) }

variable (c : Core) (i j : StreamId) (p q : PortId) (f : Ring → Ring) (g : Claim → Claim)

@[simp] theorem modRing_claim : (c.modRing i f).claim = c.claim := rfl
@[simp] theorem modClaim_ring : (c.modClaim p g).ring = c.ring := rfl
@[simp] theorem modRing_ring_self : (c.modRing i f).ring i = f (c.ring i) := by simp [modRing]
@[simp] theorem modRing_ring_ne {i j : StreamId} (h : j ≠ i) : (c.modRing i f).ring j = c.ring j := by
  simp [modRing, h]
@[simp] theorem modClaim_claim_self : (c.modClaim p g).claim p = (c.claim p).map g := by simp [modClaim]
@[simp] theorem modClaim_claim_ne {p q : PortId} (h : q ≠ p) : (c.modClaim p g).claim q = c.claim q := by
  simp [modClaim, h]

/-- A change of a ring and a change of a claim may be made in either order. -/
theorem modRing_modClaim : (c.modRing i f).modClaim p g = (c.modClaim p g).modRing i f := rfl

/-- Two changes of one ring, one after the other, are one. -/
@[simp] theorem modRing_modRing (f' : Ring → Ring) : (c.modRing i f).modRing i f' = c.modRing i (f' ∘ f) := by
  simp [modRing]

end Core

@[simp] theorem State.core_ring (s : State) (i : StreamId) : s.core.ring i = (s.stream i).ring := rfl
@[simp] theorem State.core_claim (s : State) (p : PortId) : s.core.claim p = (s.port p).claim := rfl

/-! ## The core after each operation -/

section Core

variable (s : State)

/-- The core reads the streams and the ports alone. -/
theorem State.core_congr {s t : State} (hs : s.streams = t.streams) (hp : s.ports = t.ports) : s.core = t.core := by
  simp only [State.core, State.stream, State.port, hs, hp]

/-- A change of a stream record acts on the core as its effect on that ring. -/
theorem State.modStream_core {s : State} {i : StreamId} {f : Stream → Stream} {g : Ring → Ring}
    (h : (f (s.stream i)).ring = g (s.stream i).ring) : (s.modStream i f).core = s.core.modRing i g := by
  ext j : 2
  · by_cases hj : j = i
    · subst hj; simp [h]
    · simp [hj]
  · rfl

/-- A change of a stream record outside its ring leaves the core. -/
theorem State.modStream_core_id {s : State} {i : StreamId} {f : Stream → Stream}
    (h : (f (s.stream i)).ring = (s.stream i).ring) : (s.modStream i f).core = s.core := by
  rw [State.modStream_core (g := id) h]
  ext j : 2
  · by_cases hj : j = i
    · subst hj; simp
    · simp [hj]
  · rfl

/-- A change of a port record outside its claim leaves the core. -/
theorem State.modPort_core_id {s : State} {p : PortId} {f : Port → Port}
    (h : (f (s.port p)).claim = (s.port p).claim) : (s.modPort p f).core = s.core := by
  ext q : 2
  · rfl
  · by_cases hq : q = p
    · subst hq; simp [h]
    · simp [hq]

/-- A change of a transaction acts on the core as its effect on the claim. -/
theorem State.modTxn_core {s : State} {p : PortId} {f : Transaction → Transaction} {g : Claim → Claim}
    (h : ∀ t, (f t).claim = g t.claim) : (s.modTxn p f).core = s.core.modClaim p g := by
  ext q : 2
  · rfl
  · by_cases hq : q = p
    · subst hq
      simp [Port.claim, Function.comp_def, h]
    · simp [hq]

/-- A change of a transaction outside its claim leaves the core. -/
theorem State.modTxn_core_id {s : State} {p : PortId} {f : Transaction → Transaction}
    (h : ∀ t, (f t).claim = t.claim) : (s.modTxn p f).core = s.core :=
  State.modPort_core_id (by simp [Port.claim, Function.comp_def, h])

/-! ### Operations outside the core -/

@[simp] theorem State.post_core (kind : NoticeKind) (subject : Byte) (side : NoticeSide) (value1 value2 : Word) :
    (s.post kind subject side value1 value2).core = s.core := rfl
@[simp] theorem State.mapLines_core (f : Line → Line) : (s.mapLines f).core = s.core := rfl
@[simp] theorem State.setLine_core (l : LineId) (x : Line) : (s.setLine l x).core = s.core := rfl
@[simp] theorem State.modSpi_core (f : Management → Management) : (s.modSpi f).core = s.core := rfl
@[simp] theorem State.paceCount_core (i : StreamId) (side : Side) : (s.paceCount i side).core = s.core := rfl
@[simp] theorem State.paceTest_core (i : StreamId) : (s.paceTest i).core = s.core := rfl
@[simp] theorem State.paceFrameStart_core (i : StreamId) (side : Side) : (s.paceFrameStart i side).core = s.core := rfl
@[simp] theorem State.paceDrop_core (i : StreamId) (side : Side) : (s.paceDrop i side).core = s.core := rfl
@[simp] theorem State.paceUnbind_core (i : StreamId) : (s.paceUnbind i).core = s.core := rfl

@[simp] theorem State.count_core (i : StreamId) (f : Counters → Counters) : (s.count i f).core = s.core :=
  State.modStream_core_id rfl
@[simp] theorem State.modSpan_core (i : StreamId) (f : SpanState → SpanState) : (s.modSpan i f).core = s.core :=
  State.modStream_core_id rfl
@[simp] theorem State.spanProducerStart_core (i : StreamId) : (s.spanProducerStart i).core = s.core :=
  State.modSpan_core ..
@[simp] theorem State.spanProducerBeat_core (i : StreamId) (slot : Nat) (data : Word) (last : Bool) :
    (s.spanProducerBeat i slot data last).core = s.core := State.modSpan_core ..
@[simp] theorem State.spanProducerAbandon_core (i : StreamId) (keep : Nat) :
    (s.spanProducerAbandon i keep).core = s.core := State.modSpan_core ..
@[simp] theorem State.spanCommit_core (i : StreamId) : (s.spanCommit i).core = s.core := State.modSpan_core ..
@[simp] theorem State.spanConsumerStart_core (i : StreamId) : (s.spanConsumerStart i).core = s.core :=
  State.modSpan_core ..
@[simp] theorem State.spanConsumerBeat_core (i : StreamId) (data : Word) (newest : Bool) :
    (s.spanConsumerBeat i data newest).core = s.core := State.modSpan_core ..
@[simp] theorem State.spanConsumerError_core (i : StreamId) (newest : Bool) :
    (s.spanConsumerError i newest).core = s.core := State.modSpan_core ..
@[simp] theorem State.spanConsumerAbandon_core (i : StreamId) : (s.spanConsumerAbandon i).core = s.core :=
  State.modSpan_core ..

@[simp] theorem State.spanReport_core (i : StreamId) (sp : SpanState) (faulted : Bool) :
    (s.spanReport i sp faulted).core = s.core := by
  unfold State.spanReport
  split
  · simp
  · split
    · rfl
    · split <;> simp

@[simp] theorem State.spanConsume_core (i : StreamId) (slot : Nat) (faulted : Bool) :
    (s.spanConsume i slot faulted).core = s.core := by
  unfold State.spanConsume
  split
  · rfl
  · dsimp only
    split <;> simp

@[simp] theorem State.closeSegment_core (p : PortId) : (s.closeSegment p).core = s.core := State.modPort_core_id rfl
@[simp] theorem State.deferFrame_core (p : PortId) : (s.deferFrame p).core = s.core :=
  State.modTxn_core_id fun _ => rfl
@[simp] theorem State.answerBeat_core (p : PortId) (k : Nat) (r : Response) : (s.answerBeat p k r).core = s.core := by
  rw [State.answerBeat, State.closeSegment_core, State.modTxn_core_id (by intro; rfl)]

/-- R138: a grant takes a segment from a port and leaves its transaction. -/
@[simp] theorem State.grant_core (p : PortId) (g : Segment) (rest : List Segment) : (s.grant p g rest).core = s.core := by
  calc (s.grant p g rest).core
      = (s.modPort p fun port =>
          { port with segments := rest, newestOpen := port.newestOpen && !rest.isEmpty }).core := rfl
    _ = s.core := State.modPort_core_id rfl

@[simp] theorem State.grantFirst_core (ps : List PortId) : (s.grantFirst ps).core = s.core := by
  induction ps with
  | nil => rfl
  | cons p ps ih =>
    rw [State.grantFirst]
    split
    · exact ih
    · simp

@[simp] theorem State.arbitrate_core : s.arbitrate.core = s.core := by
  unfold State.arbitrate
  split <;> simp

@[simp] theorem State.freeMemory_core : s.freeMemory.core = s.core := State.arbitrate_core _

theorem Port.joinSegment_claim (port : Port) (kind : SegmentKind) (dir : Dir) (addr : Word) (b : Binding)
    (beat : SegmentBeat) : (port.joinSegment kind dir addr b beat).claim = port.claim := by
  unfold Port.joinSegment
  dsimp only
  split
  · split <;> rfl
  · rfl

@[simp] theorem State.forward_core (p : PortId) (kind : SegmentKind) (dir : Dir) (addr : Word) (b : Binding)
    (beat : SegmentBeat) : (s.forward p kind dir addr b beat).core = s.core := by
  rw [State.forward, State.arbitrate_core, State.modPort_core_id (Port.joinSegment_claim ..),
    State.modTxn_core_id (by intro; rfl)]

@[simp] theorem State.forwardWhole_core (p : PortId) (g : Segment) : (s.forwardWhole p g).core = s.core := by
  rw [State.forwardWhole, State.arbitrate_core, State.modPort_core_id rfl]

/-! ### The Producer Path -/

/-- R47: a forwarded beat leaves the index and slot of every in-flight frame. -/
theorem map_place_forwardNewest (l : List InFlight) (last : Bool) :
    (forwardNewest l last).map InFlight.place = l.map InFlight.place := by
  rcases List.eq_nil_or_concat l with rfl | ⟨l, e, rfl⟩
  · rfl
  · simp [forwardNewest, InFlight.place]

/-- A change of the producer side that leaves its phase, and the index and slot of its frames, leaves the core. -/
theorem State.modProducer_core_id {s : State} {i : StreamId} {f : ProducerSide → ProducerSide}
    (hp : (f (s.stream i).producer).phase = (s.stream i).producer.phase)
    (hl : (f (s.stream i).producer).inFlight.map InFlight.place = (s.stream i).producer.inFlight.map InFlight.place) :
    (s.modProducer i f).core = s.core :=
  State.modStream_core_id (by simp [Stream.ring, hp, hl])

@[simp] theorem State.setProducerPhase_core (i : StreamId) (ph : ProducerPhase) :
    (s.setProducerPhase i ph).core = s.core.modRing i (.withProducerPhase ph) := State.modStream_core rfl

@[simp] theorem State.forwardPlaced_core (i : StreamId) (p : PortId) (k : Nat) (data : Word) (offset : Nat) :
    (s.forwardPlaced i p k data offset).core = s.core := by
  unfold State.forwardPlaced
  dsimp only
  split
  · rfl
  · rw [State.forward_core, State.spanProducerBeat_core]
    exact State.modProducer_core_id rfl (map_place_forwardNewest ..)

@[simp] theorem State.enterFrame_core (i : StreamId) : (s.enterFrame i).core = s.core.modRing i .place := by
  rw [State.enterFrame, State.spanProducerStart_core]
  exact State.modStream_core (by
    simp [Stream.ring, Ring.place, Stream.newInFlight, InFlight.place, Stream.nextProducerIndex, slotAfter])

@[simp] theorem State.startPlaced_core (i : StreamId) (p : PortId) (k : Nat) (data : Word) :
    (s.startPlaced i p k data).core = s.core := by simp [State.startPlaced]

@[simp] theorem State.placeFrame_core (i : StreamId) (p : PortId) (k : Nat) (data : Word) :
    (s.placeFrame i p k data).core = s.core.modRing i .place := by simp [State.placeFrame]

@[simp] theorem State.absorbFrame_core (i : StreamId) (p : PortId) : (s.absorbFrame i p).core = s.core := by
  rw [State.absorbFrame, State.closeSegment_core]
  exact State.modProducer_core_id rfl rfl

@[simp] theorem State.excessFrame_core (i : StreamId) (p : PortId) : (s.excessFrame i p).core = s.core := by
  unfold State.excessFrame
  dsimp only
  split <;> simp

@[simp] theorem State.overrunFrame_core (i : StreamId) (p : PortId) : (s.overrunFrame i p).core = s.core := by
  rw [State.overrunFrame, State.absorbFrame_core, State.count_core]
  exact State.modProducer_core_id rfl rfl

@[simp] theorem State.beginOverrun_core (i : StreamId) (p : PortId) :
    (s.beginOverrun i p).core = s.core.modRing i (.withProducerPhase .overrun) := by
  simp only [State.beginOverrun, State.overrunFrame_core, State.paceDrop_core, State.post_core]
  exact State.modStream_core rfl

@[simp] theorem State.beginHold_core (p : PortId) (limit : Nat) (data : Word) :
    (s.beginHold p limit data).core = s.core.modClaim p Claim.hold := by
  rw [State.beginHold, State.closeSegment_core]
  exact State.modTxn_core fun _ => rfl

@[simp] theorem State.endHold_core (p : PortId) : (s.endHold p).core = s.core.modClaim p Claim.release :=
  State.modTxn_core fun _ => rfl

@[simp] theorem State.stallFrame_core (i : StreamId) (p : PortId) (data : Word) :
    (s.stallFrame i p data).core = (s.core.modRing i (.withProducerPhase .held)).modClaim p Claim.hold := by
  simp [State.stallFrame, Core.modRing_modClaim]

@[simp] theorem State.resumeOverrun_core (i : StreamId) (p : PortId) (k : Nat) (data : Word) :
    (s.resumeOverrun i p k data).core = (s.core.modRing i (.withProducerPhase .flowing)).modRing i .place := by
  simp [State.resumeOverrun]

theorem Port.withdraw_claim (port : Port) (b : Binding) (ids : List Nat) : (port.withdraw b ids).claim = port.claim := by
  simp only [Port.withdraw, Port.claim, Option.map_map]
  rfl

@[simp] theorem State.abandonProducer_core (i : StreamId) (p : PortId) (keep : Nat) :
    (s.abandonProducer i p keep).core = s.core.modRing i (.keep keep) := by
  rw [State.abandonProducer, State.modPort_core_id (Port.withdraw_claim ..), State.spanProducerAbandon_core]
  exact State.modStream_core (by simp [Stream.ring, Ring.keep, List.map_take])

@[simp] theorem State.producerLoss_core (i : StreamId) (reason : Word) : (s.producerLoss i reason).core = s.core := by
  simp [State.producerLoss]

@[simp] theorem State.continueProducer_core (i : StreamId) (p : PortId) (k : Nat) (data : Word) (offset : Nat) :
    (s.continueProducer i p k data offset).core = s.core := by
  unfold State.continueProducer
  dsimp only
  split
  · simp
  · rw [State.closeSegment_core]
    exact State.modProducer_core_id rfl rfl

@[simp] theorem State.loseByError_core (i : StreamId) (filling : Bool) : (s.loseByError i filling).core = s.core := by
  unfold State.loseByError
  split
  · exact State.modProducer_core_id rfl rfl
  · rfl

/-! ### The Consumer Path -/

/-- R82: a forwarded beat leaves the index and slot of every frame in delivery. -/
theorem map_place_sealNewest (l : List Delivery) (last : Bool) :
    (sealNewest l last).map Delivery.place = l.map Delivery.place := by
  rcases List.eq_nil_or_concat l with rfl | ⟨l, e, rfl⟩
  · rfl
  · simp [sealNewest, Delivery.place]

/-- A change of the consumer side that leaves its phase, its held slot, and the index and slot of its frames, leaves the
core. -/
theorem State.modConsumer_core_id {s : State} {i : StreamId} {f : ConsumerSide → ConsumerSide}
    (hp : (f (s.stream i).consumer).phase = (s.stream i).consumer.phase)
    (hl : (f (s.stream i).consumer).delivery.map Delivery.place = (s.stream i).consumer.delivery.map Delivery.place)
    (hh : (f (s.stream i).consumer).heldSlot = (s.stream i).consumer.heldSlot) :
    (s.modConsumer i f).core = s.core :=
  State.modStream_core_id (by simp [Stream.ring, hp, hl, hh])

@[simp] theorem State.setConsumerPhase_core (i : StreamId) (ph : ConsumerPhase) :
    (s.setConsumerPhase i ph).core = s.core.modRing i (.withConsumerPhase ph) := State.modStream_core rfl

@[simp] theorem State.forwardReal_core (i : StreamId) (p : PortId) (k : Nat) (offset : Nat) :
    (s.forwardReal i p k offset).core = s.core := by
  unfold State.forwardReal
  dsimp only
  split
  · rfl
  · rw [State.forward_core, State.modTxn_core_id (by intro; rfl)]
    exact State.modConsumer_core_id rfl (map_place_sealNewest ..) rfl

@[simp] theorem State.startReal_core (i : StreamId) (p : PortId) (k : Nat) :
    (s.startReal i p k).core = s.core.modRing i .deliver := by
  simp only [State.startReal, State.forwardReal_core, State.paceFrameStart_core, State.spanConsumerStart_core]
  exact State.modStream_core (by
    simp [Stream.ring, Ring.deliver, Stream.newDelivery, Delivery.place, Stream.nextConsumerIndex, slotAfter])

@[simp] theorem State.abandonReal_core (i : StreamId) : (s.abandonReal i).core = s.core.modRing i .undeliver := by
  rw [State.abandonReal, State.spanConsumerAbandon_core]
  exact State.modStream_core (by simp [Stream.ring, Ring.undeliver, List.map_dropLast])

@[simp] theorem State.fillBeat_core (i : StreamId) (p : PortId) (k : Nat) (offset : Nat) :
    (s.fillBeat i p k offset).core = s.core := by
  have hs (f : ConsumerSide → Nat) (g : ConsumerSide → Verdict) :
      (s.modConsumer i fun cs => { cs with position := f cs, verdict := g cs }).core = s.core :=
    State.modConsumer_core_id rfl rfl rfl
  unfold State.fillBeat
  dsimp only
  split
  · simp [hs]
  · simp [hs]
  · split <;> simp [hs]

@[simp] theorem State.fillFrame_core (i : StreamId) (p : PortId) (k : Nat) : (s.fillFrame i p k).core = s.core := by
  rw [State.fillFrame, State.fillBeat_core, State.count_core]
  exact State.modConsumer_core_id rfl rfl rfl

@[simp] theorem State.waitFrame_core (i : StreamId) (p : PortId) :
    (s.waitFrame i p).core = (s.core.modRing i (.withConsumerPhase .waiting)).modClaim p Claim.hold := by
  simp [State.waitFrame, Core.modRing_modClaim]

@[simp] theorem State.consumerLoss_core (i : StreamId) (reason : Word) : (s.consumerLoss i reason).core = s.core := by
  simp [State.consumerLoss]

@[simp] theorem State.memfault_core (i : StreamId) (side : NoticeSide) (frame : Word) :
    (s.memfault i side frame).core = s.core := by
  simp [State.memfault]

/-- R87: the held slot an underrun of this stream reserves. -/
def Stream.reservedSlot (st : Stream) : Option Nat :=
  if st.mayReserve then some (slotBefore st.desc st.consumerCursor) else none

@[simp] theorem State.beginUnderrun_core (i : StreamId) :
    (s.beginUnderrun i).core = s.core.modRing i (.underrun (s.stream i).reservedSlot) := by
  simp only [State.beginUnderrun, State.paceDrop_core]
  rw [State.modStream_core (g := .withHeldSlot (s.stream i).reservedSlot), State.post_core,
    State.modStream_core (g := .withConsumerPhase .underrun) rfl, Core.modRing_modRing]
  · rfl
  · simp only [State.post_stream, State.stream_modStream_self, Stream.reservedSlot]
    by_cases h : (s.stream i).mayReserve = true
    · rw [if_pos h]
      exact congrArg Stream.ring (if_pos h)
    · rw [if_neg h]
      exact congrArg Stream.ring (if_neg h)

end Core

end Sys2Proof.Machine

namespace Sys2Proof.Machine

open Sys2Proof Sys2Proof.Safety

/-! ## Runs of consecutive frames -/

/-- The indices and slots of `n` consecutive frames, the first with this index in this slot of a ring of `depth` slots. -/
def frameRun (depth : Nat) (index : Word) (slot n : Nat) : List (Word × Nat) :=
  (List.range n).map fun k => (index + BitVec.ofNat 32 k, (slot + k) % depth)

@[simp] theorem length_frameRun (depth : Nat) (index : Word) (slot n : Nat) :
    (frameRun depth index slot n).length = n := by simp [frameRun]

/-- A run grows by the frame after its last. -/
theorem frameRun_succ (depth : Nat) (index : Word) (slot n : Nat) :
    frameRun depth index slot (n + 1)
      = frameRun depth index slot n ++ [(index + BitVec.ofNat 32 n, (slot + n) % depth)] := by
  simp [frameRun, List.range_succ]

/-- The first frames of a run are a run. -/
theorem take_frameRun (depth : Nat) (index : Word) (slot n k : Nat) :
    (frameRun depth index slot n).take k = frameRun depth index slot (min k n) := by
  simp [frameRun, ← List.map_take, List.take_range]

/-- R5: a cursor one slot on, as a remainder. -/
theorem nextSlot_eq {d : Descriptor} {slot : Nat} (h : slot < d.depth) : nextSlot d slot = (slot + 1) % d.depth := by
  unfold nextSlot
  split
  · next he => rw [he, Nat.mod_self]
  · rw [Nat.mod_eq_of_lt (by omega)]

/-- A run without its first frame is the run from the next index and slot. -/
theorem drop_one_frameRun (d : Descriptor) (index : Word) {slot : Nat} (h : slot < d.depth) (n : Nat) :
    (frameRun d.depth index slot n).drop 1 = frameRun d.depth (index + 1#32) (nextSlot d slot) (n - 1) := by
  cases n with
  | zero => rfl
  | succ n =>
    simp only [frameRun, List.range_succ_eq_map, List.map_cons, List.map_map, List.drop_succ_cons, List.drop_zero,
      Nat.add_sub_cancel, nextSlot_eq h]
    refine List.map_congr_left fun k _ => Prod.ext ?_ ?_
    · simp only [Function.comp_apply, Nat.succ_eq_add_one, BitVec.ofNat_add]
      ac_rfl
    · simp only [Function.comp_apply, Nat.succ_eq_add_one, Nat.mod_add_mod]
      congr 1
      omega

/-- A list whose entries stand at consecutive indices and slots maps to a run. -/
theorem map_eq_frameRun_iff {α : Type} (l : List α) (index : α → Word) (slot : α → Nat) (depth : Nat) (first : Word)
    (cursor : Nat) :
    (l.map fun e => (index e, slot e)) = frameRun depth first cursor l.length
      ↔ ∀ k : Fin l.length,
          index l[k] = first + BitVec.ofNat 32 k.val ∧ slot l[k] = (cursor + k.val) % depth := by
  rw [List.ext_getElem_iff]
  simp [frameRun, Fin.forall_iff, Prod.ext_iff]

/-! ## A ring in form -/

namespace Ring

/-- R5, R6, R45, R98: the counts of a budgeted ring. -/
structure BudgetSound (r : Ring) : Prop where
  consumed : r.consumed.toNat ≤ r.committed.toNat
  committed : r.committed.toNat ≤ r.budgetNow
  extension : ∀ n ∈ r.extension, 1 ≤ n
  limit : r.limit ≤ 0xFFFFFFFF
  placed : r.committed.toNat + r.inFlight.length ≤ r.limit
  spent : r.committed.toNat = r.budgetNow → r.producerPhase = .done ∧ r.extension = none

/-- R5, R8, R39, R51, R60, R76: the counts, the cursors and the two lists of a ring (RingInForm). -/
structure Placed (r : Ring) : Prop where
  depth : 2 ≤ r.desc.depth ∧ r.desc.depth ≤ 4096
  restart : 1 ≤ r.desc.restartLevel
  fits : r.occupancy + r.inFlight.length ≤ r.usableDepth
  delivered : r.delivery.length ≤ r.occupancy
  cursor : r.consumerCursor < r.desc.depth
  cursors : r.producerCursor = (r.consumerCursor + r.occupancy) % r.desc.depth
  inFlightRun : r.inFlight = frameRun r.desc.depth r.committed r.producerCursor r.inFlight.length
  deliveryRun : r.delivery = frameRun r.desc.depth r.consumed r.consumerCursor r.delivery.length
  idle : r.consumerPhase = .underrun ∨ r.consumerPhase = .waiting → r.delivery = []
  heldSlot : ∀ h ∈ r.heldSlot,
    r.consumerPhase = .underrun ∧ h = (r.consumerCursor + r.desc.depth - 1) % r.desc.depth

/-- The forms of the ring and of the budget (RingInForm, BudgetInForm), given whether a beat of the producer and a beat of
the consumer of the running session is held (HoldInForm, BudgetsInForm). -/
structure Sound (r : Ring) (heldP heldC : Prop) : Prop extends r.Placed where
  budget : r.desc.budget ≠ 0 → r.BudgetSound
  producerHold : heldP → r.producerPhase = .held ∧ r.BelowLimit
  consumerHold : heldC → r.consumerPhase = .waiting ∧ r.occupancy = 0

end Ring

/-- The ring of a stream record is in form where the record is in the forms of the statements. -/
theorem Stream.ring_sound_iff (st : Stream) (heldP heldC : Prop) :
    st.ring.Sound heldP heldC
      ↔ RingInForm st ∧ BudgetInForm st
        ∧ (heldP → st.producer.phase = .held
            ∧ (st.desc.budget ≠ 0 →
                st.committed.toNat + st.producer.inFlight.length < st.budgetNow + st.extension.getD 0))
        ∧ (heldC → st.consumer.phase = .waiting ∧ st.occupancy = 0) := by
  have hP : st.producer.inFlight.map InFlight.place = frameRun st.desc.depth st.committed st.producerCursor _ ↔ _ :=
    map_eq_frameRun_iff st.producer.inFlight InFlight.index InFlight.slot ..
  have hC : st.consumer.delivery.map Delivery.place = frameRun st.desc.depth st.consumed st.consumerCursor _ ↔ _ :=
    map_eq_frameRun_iff st.consumer.delivery Delivery.index Delivery.slot ..
  constructor
  · intro h
    refine ⟨⟨h.depth, h.restart, ?_, ?_, ⟨h.cursor, h.cursors⟩, hP.mp ?_, hC.mp ?_, ?_, h.heldSlot⟩, fun hb => ?_, ?_,
      h.consumerHold⟩
    · simpa using h.fits
    · simpa using h.delivered
    · simpa using h.inFlightRun
    · simpa using h.deliveryRun
    · simpa using h.idle
    · obtain ⟨h1, h2, h3, h4, h5, h6⟩ := h.budget hb
      exact ⟨h1, h2, h3, h4, by simpa using h5, h6⟩
    · simpa [Ring.BelowLimit] using h.producerHold
  · rintro ⟨⟨hdepth, hrestart, hfits, hdel, ⟨hcursor, hcursors⟩, hruns, hdels, hidle, hslot⟩, hbudget, hheld, hwait⟩
    refine ⟨⟨hdepth, hrestart, ?_, ?_, hcursor, hcursors, ?_, ?_, ?_, hslot⟩, fun hb => ?_, ?_, hwait⟩
    · simpa using hfits
    · simpa using hdel
    · simpa using hP.mpr hruns
    · simpa using hC.mpr hdels
    · simpa using hidle
    · obtain ⟨h1, h2, h3, h4, h5, h6⟩ := hbudget hb
      exact ⟨h1, h2, h3, h4, by simpa using h5, h6⟩
    · simpa [Ring.BelowLimit] using hheld

end Sys2Proof.Machine

namespace Sys2Proof.Machine

open Sys2Proof Sys2Proof.Safety

/-! ## What keeps a ring in form -/

namespace Ring

variable {r : Ring} {heldP heldC : Prop}

/-- Fewer held beats ask less of a ring. -/
theorem Sound.anti {heldP' heldC' : Prop} (h : r.Sound heldP heldC) (hp : heldP' → heldP) (hc : heldC' → heldC) :
    r.Sound heldP' heldC' :=
  { h with producerHold := fun x => h.producerHold (hp x), consumerHold := fun x => h.consumerHold (hc x) }

/-- The usable depth is at most the depth. -/
theorem usableDepth_le (r : Ring) : r.usableDepth ≤ r.desc.depth := by
  unfold usableDepth
  split <;> omega

/-- A slot is held only in UNDERRUN. -/
theorem Sound.heldSlot_none (h : r.Sound heldP heldC) (hu : r.consumerPhase ≠ .underrun) : r.heldSlot = none :=
  Option.eq_none_iff_forall_ne_some.mpr fun x hx => hu (h.heldSlot x hx).1

/-- While a frame is in delivery the consumer is neither in UNDERRUN nor WAITING. -/
theorem Sound.phase_of_delivery (h : r.Sound heldP heldC) (hd : r.delivery ≠ []) :
    r.consumerPhase ≠ .underrun ∧ r.consumerPhase ≠ .waiting :=
  ⟨fun hp => hd (h.idle (.inl hp)), fun hp => hd (h.idle (.inr hp))⟩

/-- While a frame is in delivery no consumer beat is held. -/
theorem Sound.not_heldC_of_delivery (h : r.Sound heldP heldC) (hd : r.delivery ≠ []) : ¬ heldC :=
  fun hc => (h.phase_of_delivery hd).2 (h.consumerHold hc).1

/-! ### The producer side -/

/-- A phase other than DONE may be left for any phase the held beats allow. -/
theorem Sound.withProducerPhase {ph : ProducerPhase} (h : r.Sound heldP heldC) (hne : r.producerPhase ≠ .done)
    (hp : heldP → ph = .held) : (r.withProducerPhase ph).Sound heldP heldC :=
  { h with
    budget := fun hb => { h.budget hb with spent := fun he => absurd ((h.budget hb).spent he).1 hne }
    producerHold := fun x => ⟨hp x, (h.producerHold x).2⟩ }

/-- R44, R51: with free room, below the frame limit and no beat held, a frame may be placed. -/
theorem Sound.place (h : r.Sound heldP heldC) (hp : ¬ heldP)
    (hroom : r.occupancy + r.inFlight.length < r.usableDepth) (hlimit : r.BelowLimit) : r.place.Sound heldP heldC :=
  { h with
    fits := by
      show r.occupancy + (r.inFlight ++ _).length ≤ r.usableDepth
      rw [List.length_append]
      exact hroom
    inFlightRun := by simpa [Ring.place, frameRun_succ] using h.inFlightRun
    budget := fun hb => { h.budget hb with placed := (List.length_append ..).symm ▸ hlimit hb }
    producerHold := fun x => absurd x hp }

/-- R52: in-flight frames may be abandoned. -/
theorem Sound.keep (h : r.Sound heldP heldC) (n : Nat) : (r.keep n).Sound heldP heldC := by
  have hle : (r.keep n).inFlight.length ≤ r.inFlight.length := by simp [Ring.keep]
  exact
    { h with
      fits := (Nat.add_le_add_left hle _).trans h.fits
      inFlightRun := by
        have := congrArg (List.take n) h.inFlightRun
        rwa [take_frameRun, ← List.length_take] at this
      budget := fun hb => { h.budget hb with placed := (Nat.add_le_add_left hle _).trans (h.budget hb).placed }
      producerHold := fun x =>
        ⟨(h.producerHold x).1, fun hb => (Nat.add_le_add_left hle _).trans_lt ((h.producerHold x).2 hb)⟩ }

/-- An abandonment leaves room for one more frame. -/
theorem Sound.room_of_keep (h : r.Sound heldP heldC) {n : Nat} (hn : n < r.inFlight.length) :
    (r.keep n).occupancy + (r.keep n).inFlight.length < (r.keep n).usableDepth := by
  have hlen : (r.keep n).inFlight.length = n := by simp [Ring.keep]; omega
  have hfits : (r.keep n).occupancy + r.inFlight.length ≤ (r.keep n).usableDepth := h.fits
  omega

/-- R100: an extension may be registered for a budgeted ring that is not DONE. -/
theorem Sound.extend {n : Nat} (h : r.Sound heldP heldC) (hne : r.producerPhase ≠ .done) (he : r.extension = none)
    (hn : 1 ≤ n) (hmax : r.budgetNow + n ≤ 0xFFFFFFFF) : (r.extend n).Sound heldP heldC := by
  have hlimit : r.limit ≤ (r.extend n).limit := by simp [limit, Ring.extend, he]
  exact
    { h with
      budget := fun hb =>
        { h.budget hb with
          extension := by rintro m ⟨⟩; exact hn
          limit := by simpa [Ring.limit, Ring.extend] using hmax
          placed := (h.budget hb).placed.trans hlimit
          spent := fun hs => absurd ((h.budget hb).spent hs).1 hne }
      producerHold := fun x => ⟨(h.producerHold x).1, fun hb => ((h.producerHold x).2 hb).trans_le hlimit⟩ }

/-! ### The consumer side -/

/-- With no slot held the consumer may enter a phase that fits its list and its held beat. -/
theorem Sound.withConsumerPhase {ph : ConsumerPhase} (h : r.Sound heldP heldC) (hs : r.heldSlot = none)
    (hd : ph = .underrun ∨ ph = .waiting → r.delivery = []) (hc : heldC → ph = .waiting) :
    (r.withConsumerPhase ph).Sound heldP heldC :=
  { h with
    budget := fun hb => { h.budget hb with }
    idle := hd
    heldSlot := fun x hx => by simp [Ring.withConsumerPhase, hs] at hx
    consumerHold := fun x => ⟨hc x, (h.consumerHold x).2⟩ }

/-- R87, R94: the held slot may be released. -/
theorem Sound.releaseSlot (h : r.Sound heldP heldC) : (r.withHeldSlot none).Sound heldP heldC :=
  { h with
    budget := fun hb => { h.budget hb with }
    fits := h.fits.trans r.usableDepth_le
    heldSlot := by rintro x ⟨⟩ }

/-- The release of a held slot leaves room for one more frame. -/
theorem Sound.room_of_releaseSlot (h : r.Sound heldP heldC) (hs : r.heldSlot.isSome) :
    (r.withHeldSlot none).occupancy + (r.withHeldSlot none).inFlight.length < (r.withHeldSlot none).usableDepth := by
  have hu : r.usableDepth = r.desc.depth - 1 := by simp [usableDepth, hs]
  have hfits : r.occupancy + r.inFlight.length ≤ r.desc.depth - 1 := hu ▸ h.fits
  have hdepth := h.depth.1
  show r.occupancy + r.inFlight.length < r.desc.depth
  omega

/-- R82: with a committed frame not yet in delivery, and the consumer FLOWING, a REAL frame may start. -/
theorem Sound.deliver (h : r.Sound heldP heldC) (hphase : r.consumerPhase = .flowing)
    (ha : r.delivery.length < r.occupancy) : r.deliver.Sound heldP heldC :=
  { h with
    budget := fun hb => { h.budget hb with }
    delivered := by
      show (r.delivery ++ _).length ≤ r.occupancy
      rw [List.length_append]
      exact ha
    deliveryRun := by simpa [Ring.deliver, frameRun_succ] using h.deliveryRun
    idle := fun hp => by simp [Ring.deliver, hphase] at hp }

/-- R79: the newest frame in delivery may be abandoned. -/
theorem Sound.undeliver (h : r.Sound heldP heldC) : r.undeliver.Sound heldP heldC :=
  { h with
    budget := fun hb => { h.budget hb with }
    delivered := (by simp [Ring.undeliver] : r.undeliver.delivery.length ≤ r.delivery.length).trans h.delivered
    deliveryRun := by
      have := congrArg List.dropLast h.deliveryRun
      rwa [List.dropLast_eq_take, List.dropLast_eq_take, take_frameRun, ← List.dropLast_eq_take,
        length_frameRun, min_eq_left (Nat.sub_le _ _), ← List.length_dropLast] at this
    idle := fun hp => by
      have : r.delivery = [] := h.idle hp
      simp [Ring.undeliver, this] }

/-- R86, R87: with nothing committed, no beat held, and a held slot only where one is spare, an underrun condition may
begin. -/
theorem Sound.underrun {slot : Option Nat} (h : r.Sound heldP heldC) (hc : ¬ heldC) (ho : r.occupancy = 0)
    (hs : ∀ x ∈ slot, x = (r.consumerCursor + r.desc.depth - 1) % r.desc.depth ∧ r.inFlight.length < r.desc.depth) :
    (r.underrun slot).Sound heldP heldC := by
  have hfits : r.inFlight.length ≤ r.desc.depth := by
    have := h.fits
    have := r.usableDepth_le
    omega
  exact
    { h with
      budget := fun hb => { h.budget hb with }
      fits := by
        show r.occupancy + r.inFlight.length ≤ if slot.isSome then r.desc.depth - 1 else r.desc.depth
        rw [ho, Nat.zero_add]
        cases slot with
        | none => exact hfits
        | some x => exact Nat.le_sub_one_of_lt (hs x rfl).2
      idle := fun _ => List.eq_nil_of_length_eq_zero (Nat.le_zero.mp (ho ▸ h.delivered))
      heldSlot := fun x hx => ⟨rfl, (hs x hx).1⟩
      consumerHold := fun x => absurd x hc }

/-- R103: a stream with no consumer beat held and no slot held may end. -/
theorem Sound.ended (h : r.Sound heldP heldC) (hc : ¬ heldC) (hs : r.heldSlot = none) : r.ended.Sound heldP heldC :=
  { h with
    budget := fun hb => { h.budget hb with }
    idle := fun hp => by simp [Ring.ended] at hp
    heldSlot := fun x hx => by simp [Ring.ended, hs] at hx
    consumerHold := fun x => absurd x hc }

/-! ### Commits and consumes -/

/-- The occupancy of a ring in form is at most 4096. -/
theorem Placed.occupancy_le (h : r.Placed) : r.occupancy ≤ 4096 := by
  have := h.fits
  have := r.usableDepth_le
  have := h.depth.2
  omega

/-- R49: a commit raises the occupancy by one. -/
theorem Placed.occupancy_commitOldest (h : r.Placed) : r.commitOldest.occupancy = r.occupancy + 1 := by
  have := h.occupancy_le
  show (r.committed + 1#32 - r.consumed).toNat = _
  unfold occupancy at *
  bv_omega

/-- R83: a consume lowers the occupancy by one. -/
theorem occupancy_consumeOldest (ho : r.occupancy ≠ 0) : r.consumeOldest.occupancy = r.occupancy - 1 := by
  show (r.committed - (r.consumed + 1#32)).toNat = _
  unfold occupancy at *
  bv_omega

@[simp] theorem length_commitOldest (r : Ring) : r.commitOldest.inFlight.length = r.inFlight.length - 1 := by
  simp [commitOldest]

@[simp] theorem length_consumeOldest (r : Ring) : r.consumeOldest.delivery.length = r.delivery.length - 1 := by
  simp [consumeOldest]

/-- R49: the oldest in-flight frame may commit. -/
theorem Placed.commitOldest (h : r.Placed) (hl : r.inFlight ≠ []) : r.commitOldest.Placed := by
  have hlen : 0 < r.inFlight.length := List.length_pos_iff.mpr hl
  have hocc := h.occupancy_commitOldest
  have hcursor : r.producerCursor < r.desc.depth := by
    rw [h.cursors]
    exact Nat.mod_lt _ (by have := h.depth.1; omega)
  have hfits : r.commitOldest.occupancy + r.commitOldest.inFlight.length ≤ r.usableDepth := by
    have := h.fits
    rw [length_commitOldest]
    omega
  exact
    { h with
      fits := hfits
      delivered := by
        rw [hocc]
        exact h.delivered.trans (Nat.le_succ _)
      cursors := by
        rw [hocc]
        show nextSlot r.desc r.producerCursor = (r.consumerCursor + (r.occupancy + 1)) % r.desc.depth
        rw [nextSlot_eq hcursor, ← Nat.add_assoc, h.cursors, Nat.mod_add_mod]
      inFlightRun := by
        have := congrArg (List.drop 1) h.inFlightRun
        rwa [drop_one_frameRun r.desc _ hcursor, ← length_commitOldest] at this }

/-- R83: the oldest frame in delivery may be consumed. -/
theorem Placed.consumeOldest (h : r.Placed) (hd : r.delivery ≠ []) : r.consumeOldest.Placed := by
  have hlen : 0 < r.delivery.length := List.length_pos_iff.mpr hd
  have hle := h.delivered
  have hocc := occupancy_consumeOldest (r := r) (by omega)
  have hnone (x : Nat) : x ∉ r.heldSlot := fun hx => hd (h.idle (.inl (h.heldSlot x hx).1))
  have hnext : r.consumeOldest.consumerCursor = (r.consumerCursor + 1) % r.desc.depth := nextSlot_eq h.cursor
  exact
    { h with
      fits := (Nat.add_le_add_right (by omega) _).trans h.fits
      delivered := by
        rw [hocc, length_consumeOldest]
        omega
      cursor := by
        rw [hnext]
        exact Nat.mod_lt _ (by have := h.depth.1; omega)
      cursors := by
        rw [hocc, hnext]
        show r.producerCursor = ((r.consumerCursor + 1) % r.desc.depth + (r.occupancy - 1)) % r.desc.depth
        rw [Nat.mod_add_mod, h.cursors]
        congr 1
        omega
      deliveryRun := by
        have := congrArg (List.drop 1) h.deliveryRun
        rwa [drop_one_frameRun r.desc _ h.cursor, ← length_consumeOldest] at this
      idle := fun hp => absurd (h.idle hp) hd
      heldSlot := fun x hx => absurd hx (hnone x) }

/-- R98: the budget test where budget_now is not reached. -/
theorem budgeted_of_not_spent (hs : ¬ r.Spent) : r.budgeted = r := by simp [budgeted, hs]

/-- R98: the budget test takes up an extension. -/
theorem budgeted_of_extension {n : Nat} (hs : r.Spent) (he : r.extension = some n) :
    r.budgeted = { r with budgetNow := r.budgetNow + n, extension := none } := by
  simp [budgeted, hs, he, Ring.limit]

/-- R98: the budget test with no extension ends the producer. -/
theorem budgeted_of_done (hs : r.Spent) (he : r.extension = none) : r.budgeted = r.withProducerPhase .done := by
  simp [budgeted, hs, he, Ring.limit, Ring.withProducerPhase]

/-- R98: the three outcomes of the budget test. -/
theorem budgeted_cases (r : Ring) :
    (r.Spent ∧ ∃ n, r.extension = some n ∧ r.budgeted = { r with budgetNow := r.budgetNow + n, extension := none })
      ∨ (r.Spent ∧ r.extension = none ∧ r.budgeted = r.withProducerPhase .done)
      ∨ (¬ r.Spent ∧ r.budgeted = r) := by
  by_cases hs : r.Spent
  · cases he : r.extension with
    | some n => exact .inl ⟨hs, n, rfl, budgeted_of_extension hs he⟩
    | none => exact .inr (.inl ⟨hs, rfl, budgeted_of_done hs he⟩)
  · exact .inr (.inr ⟨hs, budgeted_of_not_spent hs⟩)

/-- R45, R98: the budget test leaves the frame limit. -/
theorem limit_budgeted (r : Ring) : r.budgeted.limit = r.limit := by
  rcases r.budgeted_cases with ⟨_, n, he, hr⟩ | ⟨_, _, hr⟩ | ⟨_, hr⟩ <;> rw [hr]
  · simp [Ring.limit, he]
  · rfl

/-- R98: before a commit of a budgeted ring, P is below budget_now. -/
theorem BudgetSound.committed_lt (h : r.BudgetSound) (hl : r.inFlight ≠ []) : r.committed.toNat < r.budgetNow := by
  refine lt_of_le_of_ne h.committed fun he => hl ?_
  have hplaced := h.placed
  simp only [Ring.limit, (h.spent he).2, Option.getD_none] at hplaced
  exact List.eq_nil_of_length_eq_zero (by omega)

/-- R49: a commit of a budgeted ring raises P by one, without wrapping. -/
theorem BudgetSound.committed_commitOldest (h : r.BudgetSound) (hl : r.inFlight ≠ []) :
    r.commitOldest.committed.toNat = r.committed.toNat + 1 := by
  have hlt := h.committed_lt hl
  have hlim : r.budgetNow ≤ 0xFFFFFFFF := (Nat.le_add_right ..).trans h.limit
  show (r.committed + 1#32).toNat = _
  bv_omega

/-- R49, R98: the counts of a budgeted ring after a commit and its budget test. -/
theorem BudgetSound.commit (h : r.BudgetSound) (hb : r.desc.budget ≠ 0) (hl : r.inFlight ≠ []) :
    r.commitOldest.budgeted.BudgetSound := by
  have hcom := h.committed_commitOldest hl
  have hlt := h.committed_lt hl
  have hlen : 0 < r.inFlight.length := List.length_pos_iff.mpr hl
  have hlim : r.commitOldest.budgeted.limit = r.limit := limit_budgeted _
  have hconsumed : r.consumed.toNat ≤ r.commitOldest.committed.toNat := h.consumed.trans (by omega)
  have hplaced : r.commitOldest.committed.toNat + r.commitOldest.inFlight.length ≤ r.limit := by
    have := h.placed
    rw [length_commitOldest]
    omega
  rcases r.commitOldest.budgeted_cases with ⟨hs, n, he, hr⟩ | ⟨hs, he, hr⟩ | ⟨hs, hr⟩ <;> rw [hr] at hlim ⊢
  · have hn : 1 ≤ n := h.extension n he
    have hspent : r.commitOldest.committed.toNat = r.budgetNow := hs.2
    refine ⟨hconsumed, ?_, by rintro m ⟨⟩, hlim ▸ h.limit, hlim ▸ hplaced, fun hs' => ?_⟩
    · exact hspent.le.trans (Nat.le_add_right ..)
    · have : r.commitOldest.committed.toNat = r.budgetNow + n := hs'
      omega
  · exact ⟨hconsumed, hs.2.le, h.extension, hlim ▸ h.limit, hlim ▸ hplaced, fun _ => ⟨rfl, he⟩⟩
  · exact ⟨hconsumed, hcom.trans_le hlt, h.extension, hlim ▸ h.limit, hlim ▸ hplaced, fun hs' => absurd ⟨hb, hs'⟩ hs⟩

/-- R69, R98: a commit leaves a held frame start HELD and below the frame limit. -/
theorem Sound.producerHold_commit (h : r.Sound heldP heldC) (hl : r.inFlight ≠ []) (hp : heldP) :
    r.commitOldest.budgeted.producerPhase = .held ∧ r.commitOldest.budgeted.BelowLimit := by
  have hlen : 0 < r.inFlight.length := List.length_pos_iff.mpr hl
  have hheld : r.producerPhase = .held := (h.producerHold hp).1
  have hsum (hb : r.desc.budget ≠ 0) : r.commitOldest.committed.toNat + (r.inFlight.length - 1) < r.limit := by
    have := (h.budget hb).committed_commitOldest hl
    have := (h.producerHold hp).2 hb
    omega
  constructor
  · rcases r.commitOldest.budgeted_cases with ⟨_, n, _, hr⟩ | ⟨hs, he, _⟩ | ⟨_, hr⟩
    · rw [hr]
      exact hheld
    · have hlim : r.limit = r.budgetNow := by simp [Ring.limit, show r.extension = none from he]
      have hspent : r.commitOldest.committed.toNat = r.budgetNow := hs.2
      have := hsum hs.1
      omega
    · rw [hr]
      exact hheld
  · intro hb
    rw [limit_budgeted]
    show r.commitOldest.committed.toNat + r.commitOldest.inFlight.length < r.limit
    rw [length_commitOldest]
    exact hsum hb

/-- R49, R98: with no consumer beat held, the oldest in-flight frame may commit and the budget test follow. -/
theorem Sound.commit (h : r.Sound heldP heldC) (hc : ¬ heldC) (hl : r.inFlight ≠ []) :
    r.commitOldest.budgeted.Sound heldP heldC where
  toPlaced := { h.toPlaced.commitOldest hl with }
  budget hb := (h.budget hb).commit hb hl
  producerHold := h.producerHold_commit hl
  consumerHold x := absurd x hc

/-- R83: the oldest frame in delivery may be consumed. -/
theorem Sound.consume (h : r.Sound heldP heldC) (hd : r.delivery ≠ []) : r.consumeOldest.Sound heldP heldC where
  toPlaced := h.toPlaced.consumeOldest hd
  budget hb :=
    { h.budget hb with
      consumed := by
        have hlen : 0 < r.delivery.length := List.length_pos_iff.mpr hd
        have hocc : (r.committed - r.consumed).toNat ≠ 0 := (hlen.trans_le h.delivered).ne'
        have hle := (h.budget hb).consumed
        show (r.consumed + 1#32).toNat ≤ r.committed.toNat
        bv_omega }
  producerHold := h.producerHold
  consumerHold x := absurd x (h.not_heldC_of_delivery hd)

/-- A consume leaves room for one more frame. -/
theorem Sound.room_of_consume (h : r.Sound heldP heldC) (hd : r.delivery ≠ []) :
    r.consumeOldest.occupancy + r.consumeOldest.inFlight.length < r.consumeOldest.usableDepth := by
  have hlen : 0 < r.delivery.length := List.length_pos_iff.mpr hd
  have hle := h.delivered
  have hfits : r.occupancy + r.consumeOldest.inFlight.length ≤ r.consumeOldest.usableDepth := h.fits
  have hocc := occupancy_consumeOldest (r := r) (by omega)
  omega

end Ring

end Sys2Proof.Machine

namespace Sys2Proof.Machine

open Sys2Proof Sys2Proof.Safety

/-! ## A core in form -/

namespace Core

/-- R28: the session the binding names is still running. -/
def Live (c : Core) (b : Binding) : Prop :=
  (c.ring b.stream).state ≠ .closed ∧ b.session = (c.ring b.stream).session

/-- R28: a class bound to a stream as its producer or consumer on port `p` (BindingInForm). -/
structure Bound (c : Core) (p : PortId) (cls : TransactionClass) : Prop where
  producer : ∀ b, cls = .producer b →
    b.session ≤ (c.ring b.stream).session
    ∧ (c.Live b → p = (c.ring b.stream).desc.producerPort ∧ b = (c.ring b.stream).binding b.stream)
  consumer : ∀ b, cls = .consumer b →
    b.session ≤ (c.ring b.stream).session
    ∧ (c.Live b → p = (c.ring b.stream).desc.consumerPort ∧ b = (c.ring b.stream).binding b.stream)

/-- A port holds a producer beat of stream `i`'s latest session. -/
def HoldsProducer (c : Core) (i : StreamId) : Prop :=
  ∃ p b, c.claim p = some ⟨some (.producer b), true⟩ ∧ b.stream = i ∧ b.session = (c.ring i).session

/-- A port holds a consumer beat of stream `i`'s latest session. -/
def HoldsConsumer (c : Core) (i : StreamId) : Prop :=
  ∃ p b, c.claim p = some ⟨some (.consumer b), true⟩ ∧ b.stream = i ∧ b.session = (c.ring i).session

/-- Every ring that is not CLOSED is in form, and every claim is bound. -/
structure Sound (c : Core) : Prop where
  bound : ∀ p k cls, c.claim p = some k → k.cls = some cls → c.Bound p cls
  ring : ∀ i, (c.ring i).state ≠ .closed → (c.ring i).Sound (c.HoldsProducer i) (c.HoldsConsumer i)

end Core

/-! ### The forms of the statements, read from the core -/

section Forms

variable {s : State}

theorem State.live_iff (b : Binding) : s.live b = true ↔ s.core.Live b := by
  simp [State.live, Core.Live, @eq_comm _ b.session]

theorem mem_producerBinding_iff {c : TransactionClass} {b : Binding} : b ∈ producerBinding c ↔ c = .producer b := by
  cases c <;> simp [producerBinding]

theorem mem_consumerBinding_iff {c : TransactionClass} {b : Binding} : b ∈ consumerBinding c ↔ c = .consumer b := by
  cases c <;> simp [consumerBinding]

theorem State.bindingInForm_iff (p : PortId) (c : TransactionClass) : BindingInForm s p c ↔ s.core.Bound p c := by
  simp only [BindingInForm, mem_producerBinding_iff, mem_consumerBinding_iff, State.live_iff]
  exact ⟨fun h => ⟨h.1, h.2⟩, fun h => ⟨h.producer, h.consumer⟩⟩

/-- A held claim of a class is that of a held transaction of the class. -/
theorem State.core_claim_held_iff (p : PortId) (c : TransactionClass) :
    s.core.claim p = some ⟨some c, true⟩ ↔ ∃ t ∈ (s.port p).txn, t.hold ≠ none ∧ t.cls = some c := by
  simp only [State.core_claim, Port.claim, Option.map_eq_some_iff, Transaction.claim, Claim.mk.injEq,
    Option.isSome_iff_ne_none, Option.mem_def]
  exact exists_congr fun t => and_congr_right fun _ => and_comm

/-- The forms of the rings and of the budgets are the form of the core. -/
theorem State.core_sound_iff : s.core.Sound ↔ RingsInForm s ∧ BudgetsInForm s := by
  have hring (i : StreamId) := Stream.ring_sound_iff (s.stream i) (s.core.HoldsProducer i) (s.core.HoldsConsumer i)
  constructor
  · intro h
    have hform (i : StreamId) (hi : (s.stream i).state ≠ .closed) := (hring i).mp (h.ring i hi)
    refine ⟨⟨fun i hi => (hform i hi).1, fun p t ht c hc => ⟨?_, fun hold => ⟨fun b hb hlive => ?_, fun b hb hlive => ?_⟩⟩⟩,
      fun i hi => (hform i hi).2.1, fun p t ht hold c hc b hb hlive => ?_⟩
    · exact (State.bindingInForm_iff p c).mpr
        (h.bound p t.claim c (by simp [Port.claim, Option.mem_def.mp ht]) hc)
    · rw [mem_producerBinding_iff] at hb
      obtain ⟨hstate, hsession⟩ := (State.live_iff b).mp hlive
      have hclaim := (State.core_claim_held_iff p (.producer b)).mpr ⟨t, ht, hold, hb ▸ hc⟩
      exact ((hform _ hstate).2.2.1 ⟨p, b, hclaim, rfl, hsession⟩).1
    · rw [mem_consumerBinding_iff] at hb
      obtain ⟨hstate, hsession⟩ := (State.live_iff b).mp hlive
      have hclaim := (State.core_claim_held_iff p (.consumer b)).mpr ⟨t, ht, hold, hb ▸ hc⟩
      exact (hform _ hstate).2.2.2 ⟨p, b, hclaim, rfl, hsession⟩
    · rw [mem_producerBinding_iff] at hb
      obtain ⟨hstate, hsession⟩ := (State.live_iff b).mp hlive
      have hclaim := (State.core_claim_held_iff p (.producer b)).mpr ⟨t, ht, hold, hb ▸ hc⟩
      exact ((hform _ hstate).2.2.1 ⟨p, b, hclaim, rfl, hsession⟩).2
  · rintro ⟨⟨hrings, hports⟩, hbudgets, hheld⟩
    refine ⟨fun p k cls hk hcls => ?_, fun i hi => (hring i).mpr ⟨hrings i hi, hbudgets i hi, ?_, ?_⟩⟩
    · obtain ⟨t, ht, rfl⟩ := Option.map_eq_some_iff.mp hk
      exact (State.bindingInForm_iff p cls).mp (hports p t ht cls hcls).1
    · rintro ⟨p, b, hclaim, rfl, hsession⟩
      obtain ⟨t, ht, hold, hcls⟩ := (State.core_claim_held_iff p _).mp hclaim
      have hlive := (State.live_iff b).mpr ⟨hi, hsession⟩
      exact ⟨((hports p t ht _ hcls).2 hold).1 b rfl hlive, hheld p t ht hold _ hcls b rfl hlive⟩
    · rintro ⟨p, b, hclaim, rfl, hsession⟩
      obtain ⟨t, ht, hold, hcls⟩ := (State.core_claim_held_iff p _).mp hclaim
      exact ((hports p t ht _ hcls).2 hold).2 b rfl ((State.live_iff b).mpr ⟨hi, hsession⟩)

end Forms

/-! ### What keeps a core in form -/

/-- What no operation of the two paths changes in a ring: the descriptor, the session and the stream state. -/
def Ring.table (r : Ring) : Descriptor × Nat × StreamState := (r.desc, r.session, r.state)

/-- `r'` is a later ring of the same session: the descriptor stands, and a CLOSED stream stays CLOSED. -/
structure Ring.Later (r r' : Ring) : Prop where
  desc : r'.desc = r.desc
  session : r'.session = r.session
  closed : r.state = .closed → r'.state = .closed

/-- The claim `k'`, if it is one, is the claim `k` or what remains of it when its hold ends. -/
def Claim.Within (k' k : Option Claim) : Prop :=
  ∀ x, k' = some x → ∃ y, k = some y ∧ y.cls = x.cls ∧ (x.held = true → y.held = true)

theorem Claim.within_refl (k : Option Claim) : Claim.Within k k := fun x hx => ⟨x, hx, rfl, id⟩

theorem Claim.within_of_eq {k' k : Option Claim} (h : k' = none ∨ k' = k) : Claim.Within k' k := by
  rcases h with rfl | rfl
  · rintro x ⟨⟩
  · exact Claim.within_refl _

/-- A hold that ends leaves the class of its transaction. -/
theorem Claim.within_release (k : Option Claim) : Claim.Within (k.map Claim.release) k := by
  intro x hx
  obtain ⟨y, hy, rfl⟩ := Option.map_eq_some_iff.mp hx
  exact ⟨y, hy, rfl, fun hheld => absurd hheld Bool.false_ne_true⟩

namespace Core

variable {c : Core} {i : StreamId} {p : PortId}

/-- The claim of port `p` is replaced. -/
def setClaim (c : Core) (p : PortId) (k : Claim) : Core := { c with claim := Function.update c.claim p (some k) }

theorem modClaim_eq_setClaim {k : Claim} (h : c.claim p = some k) (g : Claim → Claim) :
    c.modClaim p g = c.setClaim p (g k) := by
  simp [modClaim, setClaim, h]

/-- In a core in form, the held producer beat of a running session is on its producer's port. -/
theorem Sound.claim_of_holdsProducer (h : c.Sound) (hi : (c.ring i).state ≠ .closed) (hp : c.HoldsProducer i) :
    c.claim (c.ring i).desc.producerPort = some ⟨some (.producer ((c.ring i).binding i)), true⟩ := by
  obtain ⟨p, b, hclaim, rfl, hsession⟩ := hp
  obtain ⟨hport, hbinding⟩ := ((h.bound p _ _ hclaim rfl).producer b rfl).2 ⟨hi, hsession⟩
  rw [← hport, ← hbinding]
  exact hclaim

/-- In a core in form, the held consumer beat of a running session is on its consumer's port. -/
theorem Sound.claim_of_holdsConsumer (h : c.Sound) (hi : (c.ring i).state ≠ .closed) (hp : c.HoldsConsumer i) :
    c.claim (c.ring i).desc.consumerPort = some ⟨some (.consumer ((c.ring i).binding i)), true⟩ := by
  obtain ⟨p, b, hclaim, rfl, hsession⟩ := hp
  obtain ⟨hport, hbinding⟩ := ((h.bound p _ _ hclaim rfl).consumer b rfl).2 ⟨hi, hsession⟩
  rw [← hport, ← hbinding]
  exact hclaim

/-- A class stays bound while the sessions of the rings go on. -/
theorem Bound.later {c' : Core} {cls : TransactionClass} (h : c.Bound p cls)
    (hlater : ∀ j, (c.ring j).Later (c'.ring j)) : c'.Bound p cls := by
  have hlive (b : Binding) (hb : c'.Live b) : c.Live b :=
    ⟨fun hc => hb.1 ((hlater _).closed hc), hb.2.trans (hlater _).session⟩
  refine ⟨fun b hb => ?_, fun b hb => ?_⟩
  · obtain ⟨hle, hbound⟩ := h.producer b hb
    simp only [Ring.binding, (hlater _).session, (hlater _).desc]
    exact ⟨hle, fun hl => hbound (hlive b hl)⟩
  · obtain ⟨hle, hbound⟩ := h.consumer b hb
    simp only [Ring.binding, (hlater _).session, (hlater _).desc]
    exact ⟨hle, fun hl => hbound (hlive b hl)⟩

theorem later_modRing {f : Ring → Ring} (hf : (c.ring i).Later (f (c.ring i))) (j : StreamId) :
    (c.ring j).Later ((c.modRing i f).ring j) := by
  by_cases hj : j = i
  · subst hj
    rwa [modRing_ring_self]
  · rw [modRing_ring_ne _ _ hj]
    exact ⟨rfl, rfl, id⟩

theorem session_modRing {f : Ring → Ring} (hf : (f (c.ring i)).session = (c.ring i).session) (j : StreamId) :
    ((c.modRing i f).ring j).session = (c.ring j).session := by
  by_cases hj : j = i
  · subst hj
    rwa [modRing_ring_self]
  · rw [modRing_ring_ne _ _ hj]

/-- A later ring may replace a ring if it is CLOSED or in form. -/
theorem Sound.modRing_of {f : Ring → Ring} (h : c.Sound) (hf : (c.ring i).Later (f (c.ring i)))
    (hi : (f (c.ring i)).state ≠ .closed → (f (c.ring i)).Sound (c.HoldsProducer i) (c.HoldsConsumer i)) :
    (c.modRing i f).Sound := by
  refine ⟨fun p k cls hk hcls => (h.bound p k cls hk hcls).later (later_modRing hf), fun j hj => ?_⟩
  simp only [HoldsProducer, HoldsConsumer, session_modRing hf.session, modRing_claim]
  by_cases hji : j = i
  · subst hji
    rw [modRing_ring_self] at hj ⊢
    exact hi hj
  · rw [modRing_ring_ne _ _ hji] at hj ⊢
    exact h.ring j hj

/-- A ring of the same session and state may replace a ring if it is in form. -/
theorem Sound.modRing {f : Ring → Ring} (h : c.Sound) (hf : (c.ring i).Later (f (c.ring i)))
    (hi : (c.ring i).state ≠ .closed → (c.ring i).Sound (c.HoldsProducer i) (c.HoldsConsumer i) →
      (f (c.ring i)).Sound (c.HoldsProducer i) (c.HoldsConsumer i)) : (c.modRing i f).Sound :=
  h.modRing_of hf fun hnew =>
    have hopen := fun hc => hnew (hf.closed hc)
    hi hopen (h.ring i hopen)

/-- A stream may become CLOSED. -/
theorem Sound.close (h : c.Sound) (i : StreamId) : (c.modRing i .close).Sound :=
  h.modRing_of ⟨rfl, rfl, fun _ => rfl⟩ fun hnew => absurd rfl hnew

/-- Claims may end, and holds may end. -/
theorem Sound.of_claims {c' : Core} (h : c.Sound) (hring : c'.ring = c.ring)
    (hclaim : ∀ p, Claim.Within (c'.claim p) (c.claim p)) : c'.Sound := by
  refine ⟨fun p k' cls hk' hcls => ?_, fun i hi => ?_⟩
  · obtain ⟨k, hk, hkcls, -⟩ := hclaim p k' hk'
    exact (h.bound p k cls hk (hkcls.trans hcls)).later fun j => hring ▸ ⟨rfl, rfl, id⟩
  · have hheld {p : PortId} {cls : TransactionClass} (hp : c'.claim p = some ⟨some cls, true⟩) :
        c.claim p = some ⟨some cls, true⟩ := by
      obtain ⟨⟨kcls, kheld⟩, hk, rfl, himp⟩ := hclaim p _ hp
      rw [hk, show kheld = true from himp rfl]
    rw [hring] at hi ⊢
    refine (h.ring i hi).anti ?_ ?_
    · rintro ⟨p, b, hp, hb, hs⟩
      exact ⟨p, b, hheld hp, hb, hring ▸ hs⟩
    · rintro ⟨p, b, hp, hb, hs⟩
      exact ⟨p, b, hheld hp, hb, hring ▸ hs⟩

/-- R27: a hold may end. -/
theorem Sound.release (h : c.Sound) (p : PortId) : (c.modClaim p Claim.release).Sound :=
  h.of_claims rfl fun q => by
    by_cases hq : q = p
    · subst hq
      rw [modClaim_claim_self]
      exact Claim.within_release _
    · rw [modClaim_claim_ne _ _ hq]
      exact Claim.within_refl _

/-- A port may take a claim of a bound class; if it holds a beat, the beat's stream is as R43, R69 and R88 have it. -/
theorem Sound.setClaim {k : Claim} (h : c.Sound) (hk : ∀ cls, k.cls = some cls → c.Bound p cls)
    (hp : k.held → ∀ b, k.cls = some (.producer b) →
      (c.ring b.stream).producerPhase = .held ∧ (c.ring b.stream).BelowLimit)
    (hc : k.held → ∀ b, k.cls = some (.consumer b) →
      (c.ring b.stream).consumerPhase = .waiting ∧ (c.ring b.stream).occupancy = 0) : (c.setClaim p k).Sound := by
  have hself : (c.setClaim p k).claim p = some k := by simp [Core.setClaim]
  have hne {q : PortId} (hq : q ≠ p) : (c.setClaim p k).claim q = c.claim q := by simp [Core.setClaim, hq]
  refine ⟨fun q k' cls hk' hcls => ?_, fun i hi => ?_⟩
  · by_cases hq : q = p
    · subst hq
      obtain rfl := Option.some.inj (hself.symm.trans hk')
      exact (hk cls hcls).later fun _ => ⟨rfl, rfl, id⟩
    · exact (h.bound q k' cls (hne hq ▸ hk') hcls).later fun _ => ⟨rfl, rfl, id⟩
  · have hform := h.ring i hi
    refine { hform with producerHold := ?_, consumerHold := ?_ }
    · rintro ⟨q, b, hq, rfl, hs⟩
      by_cases hqp : q = p
      · subst hqp
        obtain rfl := Option.some.inj (hself.symm.trans hq)
        exact hp rfl b rfl
      · exact hform.producerHold ⟨q, b, hne hqp ▸ hq, rfl, hs⟩
    · rintro ⟨q, b, hq, rfl, hs⟩
      by_cases hqp : q = p
      · subst hqp
        obtain rfl := Option.some.inj (hself.symm.trans hq)
        exact hc rfl b rfl
      · exact hform.consumerHold ⟨q, b, hne hqp ▸ hq, rfl, hs⟩

/-- A port may hold its beat where the beat's stream is as R43, R69 and R88 have it. -/
theorem Sound.hold (h : c.Sound)
    (hp : ∀ k b, c.claim p = some k → k.cls = some (.producer b) →
      (c.ring b.stream).producerPhase = .held ∧ (c.ring b.stream).BelowLimit)
    (hc : ∀ k b, c.claim p = some k → k.cls = some (.consumer b) →
      (c.ring b.stream).consumerPhase = .waiting ∧ (c.ring b.stream).occupancy = 0) :
    (c.modClaim p Claim.hold).Sound := by
  cases hk : c.claim p with
  | none =>
    refine h.of_claims rfl fun q => Claim.within_of_eq (.inr ?_)
    by_cases hq : q = p
    · subst hq
      simp [hk]
    · rw [modClaim_claim_ne _ _ hq]
  | some k =>
    rw [modClaim_eq_setClaim hk]
    exact h.setClaim (fun cls hcls => h.bound p k cls hk hcls) (fun _ b hb => hp k b hk hb)
      (fun _ b hb => hc k b hk hb)

/-- A core all of whose streams are CLOSED is in form if the sessions of its claims are no later than the streams'. -/
theorem Sound.of_closed {c' : Core} (h : c.Sound) (hclosed : ∀ i, (c'.ring i).state = .closed)
    (hsession : ∀ i, (c'.ring i).session = (c.ring i).session)
    (hclaim : ∀ p, Claim.Within (c'.claim p) (c.claim p)) : c'.Sound := by
  refine ⟨fun p k' cls hk' hcls => ?_, fun i hi => absurd (hclosed i) hi⟩
  obtain ⟨k, hk, hkcls, -⟩ := hclaim p k' hk'
  have hbound := h.bound p k cls hk (hkcls.trans hcls)
  exact ⟨fun b hb => ⟨hsession _ ▸ (hbound.producer b hb).1, fun hl => absurd (hclosed _) hl.1⟩,
    fun b hb => ⟨hsession _ ▸ (hbound.consumer b hb).1, fun hl => absurd (hclosed _) hl.1⟩⟩

/-- R17, R28: a ring may be replaced by that of a new session, since no claim is bound to it. -/
theorem Sound.newSession {f : Ring → Ring} (h : c.Sound)
    (hs : (f (c.ring i)).session = (c.ring i).session + 1) (hi : (f (c.ring i)).Sound False False) :
    (c.modRing i f).Sound := by
  have hself : (c.modRing i f).ring i = f (c.ring i) := modRing_ring_self ..
  have hne {j : StreamId} (hj : j ≠ i) : (c.modRing i f).ring j = c.ring j := modRing_ring_ne _ _ hj
  refine ⟨fun p k cls hk hcls => ⟨fun b hb => ?_, fun b hb => ?_⟩, fun j hj => ?_⟩
  · obtain ⟨hle, hbound⟩ := (h.bound p k cls hk hcls).producer b hb
    by_cases hbi : b.stream = i
    · simp only [Live, hbi, hself, hs] at hle ⊢
      exact ⟨by omega, fun hl => absurd hl.2 (by omega)⟩
    · simp only [Live, hne hbi]
      exact ⟨hle, hbound⟩
  · obtain ⟨hle, hbound⟩ := (h.bound p k cls hk hcls).consumer b hb
    by_cases hbi : b.stream = i
    · simp only [Live, hbi, hself, hs] at hle ⊢
      exact ⟨by omega, fun hl => absurd hl.2 (by omega)⟩
    · simp only [Live, hne hbi]
      exact ⟨hle, hbound⟩
  · by_cases hji : j = i
    · subst hji
      rw [hself]
      refine hi.anti ?_ ?_
      · rintro ⟨p, b, hp, rfl, hsession⟩
        have hle := ((h.bound p _ _ hp rfl).producer b rfl).1
        rw [hself, hs] at hsession
        omega
      · rintro ⟨p, b, hp, rfl, hsession⟩
        have hle := ((h.bound p _ _ hp rfl).consumer b rfl).1
        rw [hself, hs] at hsession
        omega
    · simp only [HoldsProducer, HoldsConsumer, hne hji, modRing_claim] at hj ⊢
      exact h.ring j hj

end Core

end Sys2Proof.Machine

namespace Sys2Proof.Machine

open Sys2Proof Sys2Proof.Safety

namespace Core

/-- Every ring of `c'` is a later one of `c`'s. -/
def Later (c c' : Core) : Prop := ∀ i, (c.ring i).Later (c'.ring i)

/-- No ring of `c'` has another descriptor, session or state than in `c`. -/
def Steady (c c' : Core) : Prop := ∀ i, (c'.ring i).table = (c.ring i).table

variable {c c' c'' : Core} {i : StreamId} {p : PortId}

theorem Later.refl (c : Core) : c.Later c := fun _ => ⟨rfl, rfl, id⟩

theorem Later.trans (h : c.Later c') (h' : c'.Later c'') : c.Later c'' := fun i =>
  ⟨(h' i).desc.trans (h i).desc, (h' i).session.trans (h i).session, fun hc => (h' i).closed ((h i).closed hc)⟩

theorem Steady.refl (c : Core) : c.Steady c := fun _ => rfl

theorem Steady.trans (h : c.Steady c') (h' : c'.Steady c'') : c.Steady c'' := fun i => (h' i).trans (h i)

theorem Steady.modRing (c : Core) (i : StreamId) {f : Ring → Ring} (hf : ∀ r : Ring, (f r).table = r.table) :
    c.Steady (c.modRing i f) := fun j => by
  by_cases hj : j = i
  · subst hj
    rw [modRing_ring_self, hf]
  · rw [modRing_ring_ne _ _ hj]

theorem Steady.desc (h : c.Steady c') (i : StreamId) : (c'.ring i).desc = (c.ring i).desc := congrArg (·.1) (h i)

theorem Steady.session (h : c.Steady c') (i : StreamId) : (c'.ring i).session = (c.ring i).session :=
  congrArg (·.2.1) (h i)

theorem Steady.state (h : c.Steady c') (i : StreamId) : (c'.ring i).state = (c.ring i).state := congrArg (·.2.2) (h i)

theorem Steady.later (h : c.Steady c') : c.Later c' := fun i =>
  ⟨h.desc i, h.session i, fun hc => (h.state i).trans hc⟩

/-- Port `p` is the producer's port of stream `i`, its transaction is stream `i`'s producer's, and it holds no beat. -/
structure WritesFor (c : Core) (p : PortId) (i : StreamId) : Prop where
  port : p = (c.ring i).desc.producerPort
  free : ∀ k, c.claim p = some k → k.held = false
  cls : ∀ k cls, c.claim p = some k → k.cls = some cls → ∃ b, cls = .producer b ∧ b.stream = i

/-- The transaction of port `p` is stream `i`'s consumer's. -/
def ReadsFor (c : Core) (p : PortId) (i : StreamId) : Prop :=
  ∀ k cls, c.claim p = some k → k.cls = some cls → ∃ b, cls = .consumer b ∧ b.stream = i

/-- Where the producer's port holds no beat, no producer beat of the stream is held. -/
theorem Sound.not_holdsProducer (h : c.Sound) (hi : (c.ring i).state ≠ .closed)
    (hfree : ∀ k, c.claim (c.ring i).desc.producerPort = some k → k.held = false) : ¬ c.HoldsProducer i :=
  fun hp => by simpa using hfree _ (h.claim_of_holdsProducer hi hp)

/-- Where the consumer's port holds no beat, no consumer beat of the stream is held. -/
theorem Sound.not_holdsConsumer (h : c.Sound) (hi : (c.ring i).state ≠ .closed)
    (hfree : ∀ k, c.claim (c.ring i).desc.consumerPort = some k → k.held = false) : ¬ c.HoldsConsumer i :=
  fun hp => by simpa using hfree _ (h.claim_of_holdsConsumer hi hp)

/-- A port whose hold has ended holds no beat. -/
theorem held_modClaim_release (c : Core) (p : PortId) {k : Claim} (hk : (c.modClaim p Claim.release).claim p = some k) :
    k.held = false := by
  rw [modClaim_claim_self] at hk
  obtain ⟨k', _, rfl⟩ := Option.map_eq_some_iff.mp hk
  rfl

end Core

/-! ## The Producer Path keeps the core in form -/

section Producer

variable {s : State} {i : StreamId} {p : PortId}

/-- R44, R51: a frame start of a producer whose phase is not DONE, with free room and below the frame limit, leaves the core
in form when it is placed in phase FLOWING. -/
theorem Core.Sound.placeFlowing {c : Core} (h : c.Sound) (hfree : (c.ring i).state ≠ .closed → ¬ c.HoldsProducer i)
    (hdone : (c.ring i).producerPhase ≠ .done)
    (hroom : (c.ring i).occupancy + (c.ring i).inFlight.length < (c.ring i).usableDepth)
    (hlimit : (c.ring i).BelowLimit) :
    ((c.modRing i (.withProducerPhase .flowing)).modRing i .place).Sound := by
  rw [Core.modRing_modRing]
  refine h.modRing ⟨rfl, rfl, id⟩ fun hi hr => ?_
  exact (hr.withProducerPhase hdone fun hp => absurd hp (hfree hi)).place (hfree hi) hroom hlimit

/-- The held producer write of stream `i`'s session, if there is one, is its producer port's. -/
theorem State.producerTxn_eq_some {t : Transaction} (h : s.producerTxn i = some t) :
    s.core.claim (s.stream i).desc.producerPort = some ⟨some (.producer (s.binding i)), t.hold.isSome⟩ := by
  simp only [State.producerTxn, Option.filter_eq_some_iff, beq_iff_eq] at h
  simp [Port.claim, h.1, Transaction.claim, h.2]

/-- R65: a room event changes nothing, or it releases the held producer write of an OPEN stream and places its frame. -/
theorem State.roomEvent_cases (s : State) (i : StreamId) :
    (s.roomEvent i).core = s.core
    ∨ ((s.stream i).state = .opened ∧ (s.stream i).producer.phase = .held
      ∧ s.core.claim (s.stream i).desc.producerPort = some ⟨some (.producer (s.binding i)), true⟩
      ∧ (s.roomEvent i).core
        = ((s.core.modClaim (s.stream i).desc.producerPort Claim.release).modRing i (.withProducerPhase .flowing)).modRing i
            .place) := by
  unfold State.roomEvent
  dsimp only
  split
  · next hheld =>
    split
    · next t ht =>
      split
      · next hold hh =>
        refine .inr ⟨hheld.1, hheld.2, ?_, ?_⟩
        · rw [State.producerTxn_eq_some ht, hh]
          rfl
        · simp [Core.modRing_modClaim]
      · exact .inl rfl
    · exact .inl rfl
  · exact .inl rfl

theorem State.roomEvent_steady (s : State) (i : StreamId) : s.core.Steady (s.roomEvent i).core := by
  rcases s.roomEvent_cases i with h | ⟨-, -, -, h⟩ <;> rw [h]
  · exact .refl _
  · rw [Core.modRing_modRing]
    exact Core.Steady.modRing _ _ fun _ => rfl

/-- A room event leaves the consumer side of every ring. -/
theorem State.roomEvent_consumer (s : State) (i j : StreamId) :
    ((s.roomEvent i).core.ring j).consumerPhase = (s.core.ring j).consumerPhase
    ∧ ((s.roomEvent i).core.ring j).delivery = (s.core.ring j).delivery
    ∧ ((s.roomEvent i).core.ring j).occupancy = (s.core.ring j).occupancy
    ∧ ((s.roomEvent i).core.ring j).heldSlot = (s.core.ring j).heldSlot := by
  rcases s.roomEvent_cases i with h | ⟨-, -, -, h⟩ <;> rw [h]
  · exact ⟨rfl, rfl, rfl, rfl⟩
  · by_cases hj : j = i
    · subst hj
      simp only [Core.modRing_ring_self]
      exact ⟨rfl, rfl, rfl, rfl⟩
    · simp [hj]

/-- R65: a room event that has made room keeps the core in form. -/
theorem State.roomEvent_sound (h : s.core.Sound)
    (hroom : (s.core.ring i).state ≠ .closed →
      (s.core.ring i).occupancy + (s.core.ring i).inFlight.length < (s.core.ring i).usableDepth) :
    (s.roomEvent i).core.Sound := by
  rcases s.roomEvent_cases i with hc | ⟨hopen, hheld, hclaim, hc⟩ <;> rw [hc]
  · exact h
  · have hi : (s.core.ring i).state ≠ .closed := by
      show (s.stream i).state ≠ .closed
      simp [hopen]
    have hholds : s.core.HoldsProducer i := ⟨_, _, hclaim, rfl, rfl⟩
    have hheld : (s.core.ring i).producerPhase = .held := hheld
    exact (h.release _).placeFlowing
      (fun _ => (h.release _).not_holdsProducer hi fun _ => Core.held_modClaim_release _ _)
      (hheld.trans_ne (by decide)) (hroom hi) ((h.ring i hi).producerHold hholds).2

/-- R43, R45: a budgeted stream that is not at its frame limit is below it. -/
theorem Stream.belowLimit_of_not_atFrameLimit {st : Stream} {heldP heldC : Prop} (h : st.ring.Sound heldP heldC)
    (hn : st.atFrameLimit = false) : st.ring.BelowLimit := by
  intro hb
  have hb' : st.desc.budget ≠ 0 := hb
  have hplaced : st.committed.toNat + st.ring.inFlight.length ≤ st.ring.limit := (h.budget hb).placed
  have hmax := (h.budget hb).limit
  simp only [Stream.atFrameLimit, Stream.frameLimit, hb', if_false, Stream.nextProducerIndex,
    decide_eq_false_iff_not, Nat.not_le, BitVec.toNat_add, BitVec.toNat_ofNat] at hn
  simp only [Stream.ring_limit, Stream.ring_inFlight, List.length_map, Stream.ring_committed] at *
  omega

/-- R60: free room, as the ring has it. -/
theorem Stream.room_of_freeRoom {st : Stream} (h : 1 ≤ st.freeRoom) :
    st.ring.occupancy + st.ring.inFlight.length < st.ring.usableDepth := by
  simp only [Stream.freeRoom, Stream.room] at h
  simp only [Stream.ring_occupancy, Stream.ring_inFlight, List.length_map, Stream.ring_usableDepth]
  omega

/-- R43: what the decisions at a producer frame start presuppose. -/
theorem Stream.producerDecision_spec (st : Stream) :
    match st.producerDecision with
    | .excess => True
    | .place => st.producer.phase ≠ .done ∧ st.atFrameLimit = false ∧ 1 ≤ st.freeRoom
    | .overrun => st.producer.phase ≠ .done
    | .stall => st.producer.phase ≠ .done ∧ st.atFrameLimit = false
    | .resume => st.producer.phase ≠ .done ∧ st.atFrameLimit = false ∧ st.desc.restartLevel ≤ st.freeRoom
    | .absorb => True := by
  unfold Stream.producerDecision
  split_ifs with hend hlimit hover hresume hroom
  · trivial
  · trivial
  · simp only [Stream.overrunMayResume, Bool.and_eq_true, decide_eq_true_eq] at hresume
    exact ⟨fun hd => hend (.inr hd), by simpa using hlimit, hresume.1⟩
  · trivial
  · exact ⟨fun hd => hend (.inr hd), by simpa using hlimit, hroom⟩
  · cases st.desc.fullPolicy
    · exact fun hd => hend (.inr hd)
    · exact ⟨fun hd => hend (.inr hd), by simpa using hlimit⟩

/-- R43: a producer frame start of a running session keeps the core in form. -/
theorem State.producerFrameStart_sound (h : s.core.Sound) (hi : (s.core.ring i).state ≠ .closed)
    (hw : s.core.WritesFor p i) (k : Nat) (data : Word) : (s.producerFrameStart i p k data).core.Sound := by
  have hr : (s.stream i).ring.Sound _ _ := h.ring i hi
  have hnot : ¬ s.core.HoldsProducer i := h.not_holdsProducer hi (hw.port ▸ hw.free)
  have hspec := (s.stream i).producerDecision_spec
  unfold State.producerFrameStart
  cases hdec : (s.stream i).producerDecision <;> rw [hdec] at hspec <;> dsimp only
  case excess => simpa using h
  case absorb => simpa using h
  case place =>
    obtain ⟨-, hlimit, hroom⟩ := hspec
    rw [State.placeFrame_core]
    exact h.modRing ⟨rfl, rfl, id⟩ fun _ _ =>
      hr.place hnot (Stream.room_of_freeRoom hroom) (Stream.belowLimit_of_not_atFrameLimit hr hlimit)
  case overrun =>
    rw [State.beginOverrun_core]
    exact h.modRing ⟨rfl, rfl, id⟩ fun _ _ => hr.withProducerPhase hspec fun hp => absurd hp hnot
  case stall =>
    obtain ⟨hdone, hlimit⟩ := hspec
    rw [State.stallFrame_core]
    refine (h.modRing ⟨rfl, rfl, id⟩ fun _ _ => hr.withProducerPhase hdone fun _ => rfl).hold ?_ ?_
    · intro k b hk hb
      obtain ⟨b', hb', rfl⟩ := hw.cls k _ hk hb
      obtain rfl : b = b' := by simpa using hb'
      rw [Core.modRing_ring_self]
      exact ⟨rfl, Stream.belowLimit_of_not_atFrameLimit hr hlimit⟩
    · intro k b hk hb
      obtain ⟨b', hb', -⟩ := hw.cls k _ hk hb
      simp at hb'
  case resume =>
    obtain ⟨hdone, hlimit, hroom⟩ := hspec
    rw [State.resumeOverrun_core]
    exact h.placeFlowing (fun _ => hnot) hdone (Stream.room_of_freeRoom (hr.restart.trans hroom))
      (Stream.belowLimit_of_not_atFrameLimit hr hlimit)

theorem State.producerFrameStart_steady (s : State) (i : StreamId) (p : PortId) (k : Nat) (data : Word) :
    s.core.Steady (s.producerFrameStart i p k data).core := by
  unfold State.producerFrameStart
  split
  · simpa using Core.Steady.refl _
  · rw [State.placeFrame_core]
    exact .modRing _ _ fun _ => rfl
  · rw [State.beginOverrun_core]
    exact .modRing _ _ fun _ => rfl
  · rw [State.stallFrame_core]
    exact .modRing _ _ fun _ => rfl
  · rw [State.resumeOverrun_core, Core.modRing_modRing]
    exact .modRing _ _ fun _ => rfl
  · simpa using Core.Steady.refl _

/-- R41, R52: the end of the current frame abandons in-flight frames, if any. -/
theorem State.endProducerFrame_core (s : State) (i : StreamId) (p : PortId) :
    (s.endProducerFrame i p).core = s.core
    ∨ ∃ n, (s.endProducerFrame i p).core = s.core.modRing i (.keep n) := by
  unfold State.endProducerFrame
  dsimp only
  split
  · exact .inr ⟨_, State.abandonProducer_core ..⟩
  · exact .inl rfl

/-- In-flight frames may be abandoned. -/
theorem Core.Sound.keep {c : Core} (h : c.Sound) (i : StreamId) (n : Nat) : (c.modRing i (.keep n)).Sound :=
  h.modRing ⟨rfl, rfl, id⟩ fun _ hr => hr.keep n

/-- Nothing that a port's claim says of its stream changes with the lists of the ring. -/
theorem Core.WritesFor.steady {c c' : Core} (hw : c.WritesFor p i) (hl : c.Steady c') (hc : c'.claim = c.claim) :
    c'.WritesFor p i :=
  ⟨hl.desc i ▸ hw.port, hc ▸ hw.free, hc ▸ hw.cls⟩

/-- R41: a change of the producer side outside its phase and its list. -/
theorem State.modProducer_placement_core (s : State) (i : StreamId) (pl : ProducerSide → Placement)
    (pos : ProducerSide → Nat) (tr : ProducerSide → Treatment) :
    (s.modProducer i fun ps => { ps with placement := pl ps, position := pos ps, treatment := tr ps }).core = s.core :=
  State.modProducer_core_id rfl rfl

/-- R41: a loss of placement abandons in-flight frames, if any. -/
theorem State.losePlacement_core (s : State) (i : StreamId) (p : PortId) (reason : Word) :
    (s.losePlacement i p reason).core = (s.endProducerFrame i p).core := by
  simp only [State.losePlacement, State.producerLoss_core]
  exact (State.modProducer_placement_core _ i (fun _ => .lost) (fun _ => 0) fun _ => .none).trans
    (State.closeSegment_core ..)

theorem State.endProducerFrame_sound (h : s.core.Sound) (i : StreamId) (p : PortId) :
    (s.endProducerFrame i p).core.Sound := by
  rcases s.endProducerFrame_core i p with hc | ⟨n, hc⟩ <;> rw [hc]
  · exact h
  · exact h.keep i n

theorem State.endProducerFrame_steady (s : State) (i : StreamId) (p : PortId) :
    s.core.Steady (s.endProducerFrame i p).core := by
  rcases s.endProducerFrame_core i p with hc | ⟨n, hc⟩ <;> rw [hc]
  · exact .refl _
  · exact .modRing _ _ fun _ => rfl

theorem State.endProducerFrame_claim (s : State) (i : StreamId) (p : PortId) :
    (s.endProducerFrame i p).core.claim = s.core.claim := by
  rcases s.endProducerFrame_core i p with hc | ⟨n, hc⟩ <;> rw [hc]
  rfl

/-- R42: an early frame abandons in-flight frames, if any, and is then a frame start. -/
theorem State.earlyFrame_eq (s : State) (i : StreamId) (p : PortId) (k : Nat) (data : Word) :
    ∃ s' : State, s.earlyFrame i p k data = s'.producerFrameStart i p k data
      ∧ s'.core = (s.endProducerFrame i p).core := by
  refine ⟨_, rfl, ?_⟩
  exact (State.modProducer_placement_core _ i (·.placement) (fun _ => 0) fun _ => .none).trans
    (State.producerLoss_core ..)

end Producer

end Sys2Proof.Machine

namespace Sys2Proof.Machine

open Sys2Proof Sys2Proof.Safety

/-! ## The Consumer Path keeps the core in form -/

section Consumer

variable {s : State} {i : StreamId} {p : PortId}

/-- R82, R89, R94: a frame start that returns the consumer to FLOWING, with a committed frame not in delivery, no slot held
and no beat held, leaves the core in form when it is REAL. -/
theorem Core.Sound.deliverFlowing {c : Core} (h : c.Sound) (hfree : (c.ring i).state ≠ .closed → ¬ c.HoldsConsumer i)
    (hslot : (c.ring i).heldSlot = none) (ha : (c.ring i).delivery.length < (c.ring i).occupancy) :
    ((c.modRing i (.withConsumerPhase .flowing)).modRing i .deliver).Sound := by
  rw [Core.modRing_modRing]
  refine h.modRing ⟨rfl, rfl, id⟩ fun hi hr => ?_
  exact (hr.withConsumerPhase (ph := .flowing) hslot (by simp) fun hc => absurd hc (hfree hi)).deliver rfl ha

/-- R28: the consumer transaction of stream `i`'s latest session, if there is one, is its consumer port's. -/
theorem State.consumerTxn_eq_some {t : Transaction} (h : s.consumerTxn i = some t) :
    s.core.claim (s.stream i).desc.consumerPort = some ⟨some (.consumer (s.binding i)), t.hold.isSome⟩ := by
  simp only [State.consumerTxn, Option.filter_eq_some_iff, beq_iff_eq] at h
  simp [Port.claim, h.1, Transaction.claim, h.2]

/-- R28: a consumer transaction of stream `i`'s latest session on its consumer's port is found. -/
theorem State.consumerTxn_of_claim {held : Bool}
    (h : s.core.claim (s.stream i).desc.consumerPort = some ⟨some (.consumer (s.binding i)), held⟩) :
    ∃ t, s.consumerTxn i = some t ∧ t.hold.isSome = held := by
  obtain ⟨t, ht, hcls⟩ := Option.map_eq_some_iff.mp h
  simp only [Transaction.claim, Claim.mk.injEq] at hcls
  exact ⟨t, by simp [State.consumerTxn, ht, hcls.1], hcls.2⟩

theorem State.consumerTxn_readsFor {t : Transaction} (h : s.consumerTxn i = some t) :
    s.core.ReadsFor (s.stream i).desc.consumerPort i := by
  intro k cls hk hcls
  rw [State.consumerTxn_eq_some h, Option.some.injEq] at hk
  subst hk
  simp only [Option.some.injEq] at hcls
  exact ⟨_, hcls.symm, rfl⟩

/-! ### The underrun condition -/

/-- R87: the slot an underrun reserves is the one before the cursor, and the in-flight frames leave it. -/
theorem Stream.reservedSlot_spec (st : Stream) :
    ∀ x ∈ st.reservedSlot, x = (st.consumerCursor + st.desc.depth - 1) % st.desc.depth
      ∧ st.producer.inFlight.length < st.desc.depth := by
  intro x hx
  unfold Stream.reservedSlot at hx
  split at hx
  · next h =>
    obtain rfl : slotBefore st.desc st.consumerCursor = x := by simpa using hx
    simp only [Stream.mayReserve, Bool.and_eq_true, decide_eq_true_eq] at h
    exact ⟨rfl, h.2⟩
  · simp at hx

/-- R86, R87: an underrun condition that begins with nothing committed and no beat held keeps the core in form. -/
theorem State.beginUnderrun_sound (h : s.core.Sound)
    (hfree : (s.core.ring i).state ≠ .closed → ¬ s.core.HoldsConsumer i) (ho : (s.core.ring i).occupancy = 0) :
    (s.beginUnderrun i).core.Sound := by
  rw [State.beginUnderrun_core]
  refine h.modRing ⟨rfl, rfl, id⟩ fun hi hr => ?_
  have hspec := (s.stream i).reservedSlot_spec
  exact hr.underrun (hfree hi) ho fun x hx => ⟨(hspec x hx).1, by simpa using (hspec x hx).2⟩

/-- R94: the release of the held slot empties it, and is a room event where it was reserved. -/
theorem State.releaseHeldSlot_core (s : State) (i : StreamId) :
    ∃ s1 : State, s1.core = s.core.modRing i (.withHeldSlot none)
      ∧ (s.releaseHeldSlot i).core
        = if (s.stream i).consumer.heldSlot.isSome then (s1.roomEvent i).core else s1.core := by
  refine ⟨s.modConsumer i fun cs => { cs with heldSlot := none, holdSource := .word }, State.modStream_core rfl, ?_⟩
  unfold State.releaseHeldSlot
  dsimp only
  split <;> simp

theorem State.releaseHeldSlot_steady (s : State) (i : StreamId) : s.core.Steady (s.releaseHeldSlot i).core := by
  obtain ⟨s1, h1, h⟩ := s.releaseHeldSlot_core i
  have hl : s.core.Steady s1.core := h1 ▸ .modRing _ _ fun _ => rfl
  rw [h]
  split
  · exact hl.trans (s1.roomEvent_steady i)
  · exact hl

theorem State.releaseHeldSlot_sound (h : s.core.Sound) (i : StreamId) : (s.releaseHeldSlot i).core.Sound := by
  obtain ⟨s1, h1, hc⟩ := s.releaseHeldSlot_core i
  have hs1 : s1.core.Sound := h1 ▸ h.modRing ⟨rfl, rfl, id⟩ fun _ hr => hr.releaseSlot
  rw [hc]
  split
  · next hslot =>
    refine State.roomEvent_sound hs1 fun hi => ?_
    rw [h1, Core.modRing_ring_self] at hi ⊢
    exact (h.ring i hi).room_of_releaseSlot hslot
  · exact hs1

/-- The release of the held slot leaves the rest of the consumer side. -/
theorem State.releaseHeldSlot_consumer (s : State) (i : StreamId) :
    ((s.releaseHeldSlot i).core.ring i).consumerPhase = (s.core.ring i).consumerPhase
    ∧ ((s.releaseHeldSlot i).core.ring i).delivery = (s.core.ring i).delivery
    ∧ ((s.releaseHeldSlot i).core.ring i).occupancy = (s.core.ring i).occupancy
    ∧ ((s.releaseHeldSlot i).core.ring i).heldSlot = none := by
  obtain ⟨s1, h1, hc⟩ := s.releaseHeldSlot_core i
  have hr : s1.core.ring i = (s.core.ring i).withHeldSlot none := by rw [h1, Core.modRing_ring_self]
  have hroom := s1.roomEvent_consumer i i
  rw [hr] at hroom
  rw [hc]
  split
  · exact hroom
  · rw [hr]
    exact ⟨rfl, rfl, rfl, rfl⟩

theorem State.resumeUnderrun_core (s : State) (i : StreamId) (p : PortId) (k : Nat) :
    (s.resumeUnderrun i p k).core
      = ((s.releaseHeldSlot i).core.modRing i (.withConsumerPhase .flowing)).modRing i .deliver := by
  simp [State.resumeUnderrun]

/-- R94: with a frame committed, an underrun condition may resume. -/
theorem State.resumeUnderrun_sound (h : s.core.Sound) (hi : (s.core.ring i).state ≠ .closed)
    (hphase : (s.core.ring i).consumerPhase = .underrun) (ho : 1 ≤ (s.core.ring i).occupancy) (p : PortId) (k : Nat) :
    (s.resumeUnderrun i p k).core.Sound := by
  obtain ⟨hph, hdel, hocc, hslot⟩ := s.releaseHeldSlot_consumer i
  have hs1 := State.releaseHeldSlot_sound h i
  rw [State.resumeUnderrun_core]
  refine hs1.deliverFlowing (fun hi' hc => ?_) hslot ?_
  · have := ((hs1.ring i hi').consumerHold hc).1
    rw [hph, hphase] at this
    simp at this
  · rw [hdel, hocc, (h.ring i hi).idle (.inl hphase)]
    exact ho

/-! ### The frame verdict -/

/-- R80, R81, R93: what the decisions at a consumer frame start presuppose. -/
theorem Stream.consumerDecision_spec (st : Stream) :
    match st.consumerDecision with
    | .word => True
    | .real => st.consumer.phase = .flowing ∧ 1 ≤ st.available
    | .defer => True
    | .underrun => st.consumer.phase = .flowing ∧ st.available = 0 ∧ st.consumer.delivery = []
    | .wait => st.consumer.phase = .flowing ∧ st.available = 0 ∧ st.consumer.delivery = []
    | .resume => st.consumer.phase = .underrun ∧ (1 ≤ st.desc.restartLevel → 1 ≤ st.occupancy)
    | .fill => True := by
  unfold Stream.consumerDecision
  by_cases hended : st.state = .ended
  · rw [if_pos hended]
    trivial
  · rw [if_neg hended]
    cases hphase : st.consumer.phase <;> dsimp only
    case flowing =>
      split_ifs with ha hd
      · exact ⟨rfl, ha⟩
      · trivial
      · have hd : st.consumer.delivery = [] := by simpa using hd
        cases st.desc.emptyPolicy <;> exact ⟨rfl, by omega, hd⟩
    case underrun =>
      split_ifs with hresume
      · refine ⟨rfl, fun hrestart => ?_⟩
        simp only [Stream.underrunMayResume] at hresume
        split_ifs at hresume
        · simpa using hresume
        · simp only [Bool.and_eq_true, Bool.or_eq_true, decide_eq_true_eq] at hresume
          omega
      · trivial

/-- R80: a consumer frame start of a running session keeps the core in form. -/
theorem State.consumerFrameStart_sound (h : s.core.Sound) (hi : (s.core.ring i).state ≠ .closed)
    (hreads : s.core.ReadsFor p i) (k : Nat) : (s.consumerFrameStart i p k).core.Sound := by
  have hr : (s.stream i).ring.Sound _ _ := h.ring i hi
  have hspec := (s.stream i).consumerDecision_spec
  have hfree (hphase : (s.stream i).consumer.phase = .flowing) : ¬ s.core.HoldsConsumer i := fun hc => by
    have hwait : (s.stream i).consumer.phase = .waiting := (hr.consumerHold hc).1
    rw [hphase] at hwait
    cases hwait
  unfold State.consumerFrameStart
  cases hdec : (s.stream i).consumerDecision <;> rw [hdec] at hspec <;> dsimp only
  case word => simpa using h
  case defer => simpa using h
  case fill => simpa using h
  case real =>
    obtain ⟨hphase, ha⟩ := hspec
    rw [State.startReal_core]
    refine h.modRing ⟨rfl, rfl, id⟩ fun _ _ => hr.deliver hphase ?_
    simp only [Stream.available] at ha
    simp only [Stream.ring_delivery, List.length_map, Stream.ring_occupancy]
    omega
  case underrun =>
    obtain ⟨hphase, ha, hd⟩ := hspec
    rw [State.fillFrame_core]
    exact State.beginUnderrun_sound h (fun _ => hfree hphase) (by simpa [Stream.available, hd] using ha)
  case wait =>
    obtain ⟨hphase, ha, hd⟩ := hspec
    rw [State.waitFrame_core]
    refine (h.modRing ⟨rfl, rfl, id⟩ fun _ _ =>
      hr.withConsumerPhase (hr.heldSlot_none (by simp [hphase])) (fun _ => by simp [hd])
        fun hc => absurd hc (hfree hphase)).hold ?_ ?_
    · intro k b hk hb
      obtain ⟨b', hb', -⟩ := hreads k _ hk hb
      simp at hb'
    · intro k b hk hb
      obtain ⟨b', hb', rfl⟩ := hreads k _ hk hb
      obtain rfl : b = b' := by simpa using hb'
      rw [Core.modRing_ring_self]
      refine ⟨rfl, ?_⟩
      show (s.stream b.stream).occupancy = 0
      simpa [Stream.available, hd] using ha
  case resume =>
    exact State.resumeUnderrun_sound h hi hspec.1 (hspec.2 hr.restart) p k

theorem State.consumerFrameStart_steady (s : State) (i : StreamId) (p : PortId) (k : Nat) :
    s.core.Steady (s.consumerFrameStart i p k).core := by
  unfold State.consumerFrameStart
  split
  · simpa using Core.Steady.refl _
  · rw [State.startReal_core]
    exact .modRing _ _ fun _ => rfl
  · simpa using Core.Steady.refl _
  · rw [State.fillFrame_core, State.beginUnderrun_core]
    exact .modRing _ _ fun _ => rfl
  · rw [State.waitFrame_core]
    exact .modRing _ _ fun _ => rfl
  · rw [State.resumeUnderrun_core, Core.modRing_modRing]
    exact (s.releaseHeldSlot_steady i).trans (.modRing _ _ fun _ => rfl)
  · simpa using Core.Steady.refl _

/-- R81: a deferral that ends is a frame start of the consumer's transaction; else nothing happens. -/
theorem State.decideDeferred_cases (s : State) (i : StreamId) :
    s.decideDeferred i = s
    ∨ ∃ (s1 : State) (p : PortId) (k : Nat), s1.core = s.core ∧ s1.core.ReadsFor p i
      ∧ s.decideDeferred i = s1.consumerFrameStart i p k := by
  unfold State.decideDeferred
  dsimp only
  split
  · next t ht =>
    split
    · have hcore : (s.modTxn (s.stream i).desc.consumerPort fun t => { t with deferred := false }).core = s.core :=
        State.modTxn_core_id fun _ => rfl
      exact .inr ⟨_, _, _, hcore, hcore ▸ State.consumerTxn_readsFor ht, rfl⟩
    · exact .inl rfl
  · exact .inl rfl

theorem State.decideDeferred_sound (h : s.core.Sound) (hi : (s.core.ring i).state ≠ .closed) :
    (s.decideDeferred i).core.Sound := by
  rcases s.decideDeferred_cases i with hc | ⟨s1, p, k, hs1, hreads, hc⟩ <;> rw [hc]
  · exact h
  · exact State.consumerFrameStart_sound (hs1 ▸ h) (hs1 ▸ hi) hreads k

theorem State.decideDeferred_steady (s : State) (i : StreamId) : s.core.Steady (s.decideDeferred i).core := by
  rcases s.decideDeferred_cases i with hc | ⟨s1, p, k, hs1, -, hc⟩ <;> rw [hc]
  · exact .refl _
  · exact hs1 ▸ s1.consumerFrameStart_steady i p k

/-! ### Loss of placement -/

/-- R78, R79: the end of the current frame abandons the newest frame in delivery, if any. -/
theorem State.endConsumerFrame_core (s : State) (i : StreamId) :
    (s.endConsumerFrame i).core = s.core ∨ (s.endConsumerFrame i).core = s.core.modRing i .undeliver := by
  unfold State.endConsumerFrame
  split
  · exact .inr (State.abandonReal_core ..)
  · exact .inl rfl

theorem State.endConsumerFrame_sound (h : s.core.Sound) (i : StreamId) : (s.endConsumerFrame i).core.Sound := by
  rcases s.endConsumerFrame_core i with hc | hc <;> rw [hc]
  · exact h
  · exact h.modRing ⟨rfl, rfl, id⟩ fun _ hr => hr.undeliver

theorem State.endConsumerFrame_steady (s : State) (i : StreamId) : s.core.Steady (s.endConsumerFrame i).core := by
  rcases s.endConsumerFrame_core i with hc | hc <;> rw [hc]
  · exact .refl _
  · exact .modRing _ _ fun _ => rfl

theorem State.endConsumerFrame_claim (s : State) (i : StreamId) : (s.endConsumerFrame i).core.claim = s.core.claim := by
  rcases s.endConsumerFrame_core i with hc | hc <;> rw [hc]
  rfl

/-- A change of the consumer side's placement, position and verdict leaves the core. -/
theorem State.modConsumer_placement_core (s : State) (i : StreamId) (pl : ConsumerSide → Placement)
    (pos : ConsumerSide → Nat) (v : ConsumerSide → Verdict) :
    (s.modConsumer i fun cs => { cs with placement := pl cs, position := pos cs, verdict := v cs }).core = s.core :=
  State.modConsumer_core_id rfl rfl rfl

theorem State.misplacedRead_core (s : State) (i : StreamId) (p : PortId) (k : Nat) :
    (s.misplacedRead i p k).core = (s.endConsumerFrame i).core := by
  simp only [State.misplacedRead, State.consumerLoss_core]
  exact (State.modConsumer_placement_core _ i (fun _ => .lost) (fun _ => 0) fun _ => .lostFill).trans
    (State.answerBeat_core ..)

@[simp] theorem State.continueConsumer_core (s : State) (i : StreamId) (p : PortId) (k offset : Nat) :
    (s.continueConsumer i p k offset).core = s.core := by
  unfold State.continueConsumer
  split <;> simp

/-- R77 to R79, R96: a read beat of the Consumer Path ends the current frame or not, and is a frame start or not. -/
theorem State.consumerBeat_cases (s : State) (i : StreamId) (p : PortId) (k offset : Nat) :
    ∃ s1 : State, (s1.core = s.core ∨ s1.core = (s.endConsumerFrame i).core)
      ∧ ((s.consumerBeat i p k offset).core = s1.core ∨ s.consumerBeat i p k offset = s1.consumerFrameStart i p k) := by
  have hearly : ∃ s1 : State, (s1.core = s.core ∨ s1.core = (s.endConsumerFrame i).core)
      ∧ ((s.earlyRead i p k).core = s1.core ∨ s.earlyRead i p k = s1.consumerFrameStart i p k) := by
    refine ⟨_, .inr ?_, .inr rfl⟩
    exact (State.modConsumer_placement_core _ i (·.placement) (fun _ => 0) fun _ => .none).trans
      (State.consumerLoss_core ..)
  unfold State.consumerBeat
  dsimp only
  split
  · exact ⟨s, .inl rfl, .inl (State.answerBeat_core ..)⟩
  · split
    · split_ifs
      · exact ⟨s, .inl rfl, .inr rfl⟩
      · exact ⟨s, .inl rfl, .inl (State.continueConsumer_core ..)⟩
      · exact hearly
      · exact ⟨s.endConsumerFrame i, .inr rfl, .inl (s.misplacedRead_core i p k)⟩
    · split_ifs
      · refine ⟨_, .inl ?_, .inr rfl⟩
        exact State.modConsumer_placement_core s i (fun _ => .inStep) (·.position) fun _ => .none
      · exact ⟨s, .inl rfl, .inl (State.answerBeat_core ..)⟩

theorem State.consumerBeat_steady (s : State) (i : StreamId) (p : PortId) (k offset : Nat) :
    s.core.Steady (s.consumerBeat i p k offset).core := by
  obtain ⟨s1, hs1, hc⟩ := s.consumerBeat_cases i p k offset
  have hl : s.core.Steady s1.core := by
    rcases hs1 with hs1 | hs1 <;> rw [hs1]
    · exact .refl _
    · exact s.endConsumerFrame_steady i
  rcases hc with hc | hc <;> rw [hc]
  · exact hl
  · exact hl.trans (s1.consumerFrameStart_steady i p k)

/-- R77: a read beat of a running session keeps the core in form. -/
theorem State.consumerBeat_sound (h : s.core.Sound) (hi : (s.core.ring i).state ≠ .closed)
    (hreads : s.core.ReadsFor p i) (k offset : Nat) : (s.consumerBeat i p k offset).core.Sound := by
  obtain ⟨s1, hs1, hc⟩ := s.consumerBeat_cases i p k offset
  have hs1 : s1.core.Sound ∧ (s1.core.ring i).state ≠ .closed ∧ s1.core.ReadsFor p i := by
    rcases hs1 with hs1 | hs1
    · rw [hs1]
      exact ⟨h, hi, hreads⟩
    · have hend : ((s.endConsumerFrame i).core.ring i).state = (s.core.ring i).state :=
        (s.endConsumerFrame_steady i).state i
      have hclaim := s.endConsumerFrame_claim i
      rw [hs1, Core.ReadsFor, hclaim, hend]
      exact ⟨State.endConsumerFrame_sound h i, hi, hreads⟩
  rcases hc with hc | hc <;> rw [hc]
  · exact hs1.1
  · exact State.consumerFrameStart_sound hs1.1 hs1.2.1 hs1.2.2 k

end Consumer

end Sys2Proof.Machine

namespace Sys2Proof.Machine

open Sys2Proof Sys2Proof.Safety

/-! ## Closing, commits and consumes keep the core in form -/

section Closing

variable {s : State} {i : StreamId} {p : PortId}

/-! ### Becoming CLOSED -/

@[simp] theorem State.becomeClosed_core (s : State) (i : StreamId) :
    (s.becomeClosed i).core = s.core.modRing i .close :=
  (State.paceUnbind_core ..).trans (State.modStream_core rfl)

/-- R108: the drain test changes nothing, or it ends the hold of the consumer's port, if any, and closes the stream. -/
theorem State.drainTest_cases (s : State) (i : StreamId) :
    s.drainTest i = s
    ∨ (s.drainTest i).core = s.core.modRing i .close
    ∨ (s.drainTest i).core = (s.core.modClaim (s.stream i).desc.consumerPort Claim.release).modRing i .close := by
  unfold State.drainTest
  split
  · right
    have hclose : (s.completeDrain i).core = (s.fillHeldRead i).core.modRing i .close := by simp [State.completeDrain]
    rw [hclose]
    unfold State.fillHeldRead
    split
    · split
      · right
        rw [State.modTxn_core (g := Claim.release) fun _ => rfl]
      · exact .inl rfl
    · exact .inl rfl
  · exact .inl rfl

theorem State.drainTest_sound (h : s.core.Sound) (i : StreamId) : (s.drainTest i).core.Sound := by
  rcases s.drainTest_cases i with hc | hc | hc <;> rw [hc]
  · exact h
  · exact h.close i
  · exact (h.release _).close i

theorem Core.Later.close (c : Core) (i : StreamId) : c.Later (c.modRing i .close) :=
  Core.later_modRing ⟨rfl, rfl, fun _ => rfl⟩

theorem State.drainTest_later (s : State) (i : StreamId) : s.core.Later (s.drainTest i).core := by
  rcases s.drainTest_cases i with hc | hc | hc <;> rw [hc]
  · exact .refl _
  · exact .close _ _
  · exact Core.Later.close (s.core.modClaim _ _) i

/-! ### A commit -/

/-- Changes of one ring that agree on it are the same change. -/
theorem Core.modRing_congr {c : Core} {f g : Ring → Ring} (h : f (c.ring i) = g (c.ring i)) :
    c.modRing i f = c.modRing i g := by
  simp [Core.modRing, h]

/-- A change that leaves the ring as it is changes nothing. -/
theorem Core.modRing_eq_self {c : Core} {f : Ring → Ring} (h : f (c.ring i) = c.ring i) : c.modRing i f = c := by
  simp [Core.modRing, h]

@[simp] theorem State.budgetTest_core (s : State) (i : StreamId) :
    (s.budgetTest i).core = s.core.modRing i .budgeted := by
  unfold State.budgetTest
  dsimp only
  split
  · next hspent =>
    split
    · next n he =>
      rw [State.post_core]
      exact State.modStream_core (Ring.budgeted_of_extension (r := (s.stream i).ring) hspent he).symm
    · next he =>
      simp only [State.paceDrop_core, State.post_core, State.setProducerPhase_core]
      exact Core.modRing_congr (Ring.budgeted_of_done (r := (s.stream i).ring) hspent he).symm
  · next hspent => exact (Core.modRing_eq_self (Ring.budgeted_of_not_spent (r := (s.stream i).ring) hspent)).symm

/-- R49: a commit is the commit of the oldest frame in the ring and the budget test, and then reaches the consumer. -/
theorem State.commit_eq (s : State) (i : StreamId) :
    ∃ s2 : State, s2.core = s.core.modRing i (Ring.budgeted ∘ Ring.commitOldest)
      ∧ s.commit i = s2.commitReachesConsumer i := by
  refine ⟨_, ?_, rfl⟩
  rw [State.budgetTest_core, State.paceCount_core, State.spanCommit_core,
    State.modStream_core (g := Ring.commitOldest) (by simp [Stream.ring, Ring.commitOldest, Stream.commitOldest]),
    Core.modRing_modRing]

/-- R89: a commit releases a held consumer read of the session as a REAL frame. -/
theorem State.releaseWaiting_core_of_held
    (h : s.core.claim (s.stream i).desc.consumerPort = some ⟨some (.consumer (s.binding i)), true⟩) :
    (s.releaseWaiting i).core
      = ((s.core.modClaim (s.stream i).desc.consumerPort Claim.release).modRing i (.withConsumerPhase .flowing)).modRing i
          .deliver := by
  obtain ⟨t, ht, hhold⟩ := State.consumerTxn_of_claim h
  obtain ⟨hold, hh⟩ := Option.isSome_iff_exists.mp hhold
  unfold State.releaseWaiting
  simp [ht, hh, Core.modRing_modClaim]

/-- R89: with no consumer read of the session held, a commit releases none. -/
theorem State.releaseWaiting_of_not_held (h : ¬ s.core.HoldsConsumer i) : s.releaseWaiting i = s := by
  unfold State.releaseWaiting
  dsimp only
  split
  · next t ht =>
    split
    · next hold hh =>
      have hclaim := State.consumerTxn_eq_some ht
      rw [hh] at hclaim
      exact absurd ⟨_, _, hclaim, rfl, rfl⟩ h
    · rfl
  · rfl

theorem State.releaseWaiting_steady (s : State) (i : StreamId) : s.core.Steady (s.releaseWaiting i).core := by
  by_cases h : s.core.claim (s.stream i).desc.consumerPort = some ⟨some (.consumer (s.binding i)), true⟩
  · rw [State.releaseWaiting_core_of_held h, Core.modRing_modRing]
    exact Core.Steady.modRing (s.core.modClaim _ _) _ fun _ => rfl
  · unfold State.releaseWaiting
    dsimp only
    split
    · next t ht =>
      split
      · next hold hh =>
        have hclaim := State.consumerTxn_eq_some ht
        rw [hh] at hclaim
        exact absurd hclaim h
      · exact .refl _
    · exact .refl _

theorem State.commit_steady (s : State) (i : StreamId) : s.core.Steady (s.commit i).core := by
  obtain ⟨s2, h2, hc⟩ := s.commit_eq i
  have hs : s.core.Steady s2.core := h2 ▸ .modRing _ _ fun _ => rfl
  rw [hc, State.commitReachesConsumer]
  split
  · exact hs.trans (s2.releaseWaiting_steady i)
  · exact hs.trans (s2.decideDeferred_steady i)

/-- A held beat is that of the same session in a steady core with the same claims. -/
theorem Core.Steady.holdsConsumer_iff {c c' : Core} (h : c.Steady c') (hc : c'.claim = c.claim) :
    c'.HoldsConsumer i ↔ c.HoldsConsumer i := by
  simp only [Core.HoldsConsumer, hc, h.session i]

/-- R89: with a consumer read of the session held, a commit is the commit of the ring, and the release of the read as a
REAL frame. -/
theorem State.commit_core_of_held (hheld : (s.core.ring i).consumerPhase = .waiting)
    (hclaim : s.core.claim (s.core.ring i).desc.consumerPort
      = some ⟨some (.consumer ((s.core.ring i).binding i)), true⟩) :
    (s.commit i).core
      = (((s.core.modClaim (s.core.ring i).desc.consumerPort Claim.release).modRing i
          (Ring.budgeted ∘ Ring.commitOldest)).modRing i (.withConsumerPhase .flowing)).modRing i .deliver := by
  obtain ⟨s2, h2, hc⟩ := s.commit_eq i
  have hring : s2.core.ring i = (s.core.ring i).commitOldest.budgeted := h2 ▸ Core.modRing_ring_self ..
  have hphase : (s2.core.ring i).consumerPhase = .waiting := hring ▸ hheld
  have hclaim2 : s2.core.claim (s2.core.ring i).desc.consumerPort
      = some ⟨some (.consumer ((s2.core.ring i).binding i)), true⟩ := by
    rw [hring, h2]
    exact hclaim
  have hport : (s2.stream i).desc.consumerPort = (s.core.ring i).desc.consumerPort :=
    congrArg (·.desc.consumerPort) hring
  rw [hc, State.commitReachesConsumer, if_pos (by exact hphase), State.releaseWaiting_core_of_held hclaim2, h2, hport]
  rfl

/-- R49, R50: a commit of a running session with a frame in flight keeps the core in form. -/
theorem State.commit_sound (h : s.core.Sound) (hi : (s.core.ring i).state ≠ .closed)
    (hl : (s.core.ring i).inFlight ≠ []) : (s.commit i).core.Sound := by
  have hr := h.ring i hi
  by_cases hholds : s.core.HoldsConsumer i
  · obtain ⟨hphase, hocc⟩ := hr.consumerHold hholds
    have hrel := h.release (s.core.ring i).desc.consumerPort
    have hfree := hrel.not_holdsConsumer hi fun _ => Core.held_modClaim_release _ _
    rw [State.commit_core_of_held hphase (h.claim_of_holdsConsumer hi hholds)]
    have hcommitted := hrel.modRing (f := Ring.budgeted ∘ Ring.commitOldest) (i := i) ⟨rfl, rfl, id⟩
      fun _ hr' => hr'.commit hfree hl
    refine hcommitted.deliverFlowing (fun _ hc => hfree ?_) ?_ ?_
    · have hsteady := Core.Steady.modRing (s.core.modClaim (s.core.ring i).desc.consumerPort Claim.release) i
        (f := Ring.budgeted ∘ Ring.commitOldest) fun _ => rfl
      exact (hsteady.holdsConsumer_iff rfl).mp hc
    · rw [Core.modRing_ring_self]
      exact hr.heldSlot_none (by simp only [hphase]; decide)
    · rw [Core.modRing_ring_self]
      have hdel : (s.core.ring i).delivery = [] := hr.idle (.inr hphase)
      show (s.core.ring i).delivery.length < (s.core.ring i).commitOldest.occupancy
      rw [hdel, hr.occupancy_commitOldest]
      exact Nat.succ_pos _
  · obtain ⟨s2, h2, hc⟩ := s.commit_eq i
    have hsteady : s.core.Steady s2.core := h2 ▸ .modRing _ _ fun _ => rfl
    have hnot : ¬ s2.core.HoldsConsumer i := mt (hsteady.holdsConsumer_iff (h2 ▸ rfl)).mp hholds
    have hcommitted : s2.core.Sound := h2 ▸ h.modRing ⟨rfl, rfl, id⟩ fun _ hr' => hr'.commit hholds hl
    rw [hc, State.commitReachesConsumer]
    split
    · rwa [State.releaseWaiting_of_not_held hnot]
    · exact State.decideDeferred_sound hcommitted (hsteady.state i ▸ hi)

/-! ### A consume -/

/-- R103: the end test changes nothing, or the OPEN stream is ENDED. -/
theorem State.endTest_cases (s : State) (i : StreamId) :
    s.endTest i = s ∨ ((s.stream i).state = .opened ∧ (s.endTest i).core = s.core.modRing i .ended) := by
  unfold State.endTest
  dsimp only
  split
  · next hend => exact .inr ⟨hend.1, (State.paceDrop_core ..).trans ((State.post_core ..).trans (State.modStream_core rfl))⟩
  · exact .inl rfl

theorem State.endTest_later (s : State) (i : StreamId) : s.core.Later (s.endTest i).core := by
  rcases s.endTest_cases i with hc | ⟨hopen, hc⟩ <;> rw [hc]
  · exact .refl _
  · refine Core.later_modRing ⟨rfl, rfl, fun hclosed => ?_⟩
    exact absurd (hopen.symm.trans hclosed) (by decide)

/-- The end test closes no stream. -/
theorem State.endTest_open (hi : (s.core.ring i).state ≠ .closed) : ((s.endTest i).core.ring i).state ≠ .closed := by
  rcases s.endTest_cases i with hc | ⟨-, hc⟩ <;> rw [hc]
  · exact hi
  · rw [Core.modRing_ring_self]
    simp [Ring.ended]

/-- R103: the end test of a stream whose consumer is neither in UNDERRUN nor WAITING keeps the core in form. -/
theorem State.endTest_sound (h : s.core.Sound)
    (hphase : (s.core.ring i).consumerPhase ≠ .underrun ∧ (s.core.ring i).consumerPhase ≠ .waiting) :
    (s.endTest i).core.Sound := by
  rcases s.endTest_cases i with hc | ⟨hopen, hc⟩ <;> rw [hc]
  · exact h
  · refine h.modRing ⟨rfl, rfl, fun hclosed => absurd (hopen.symm.trans hclosed) (by decide)⟩ fun _ hr => ?_
    exact hr.ended (fun hc => hphase.2 (hr.consumerHold hc).1) (hr.heldSlot_none hphase.1)

/-- R81, R108: what follows a consume is the decision of a deferred frame start and the drain test, in one order or the
other, or one of them alone. -/
theorem State.afterConsume_cases (s : State) (i : StreamId) :
    ∃ s1 : State, s1.core = s.core
      ∧ (s.afterConsume i = s1.drainTest i ∨ s.afterConsume i = s1.decideDeferred i
        ∨ s.afterConsume i = (s1.decideDeferred i).drainTest i) := by
  have hcore : ({ s with choices := s.choices + 1 } : State).core = s.core := rfl
  unfold State.afterConsume
  dsimp only
  split_ifs
  · exact ⟨_, hcore, .inr (.inr rfl)⟩
  · exact ⟨_, hcore, .inl rfl⟩
  · exact ⟨s, rfl, .inr (.inl rfl)⟩
  · exact ⟨s, rfl, .inl rfl⟩

theorem State.afterConsume_later (s : State) (i : StreamId) : s.core.Later (s.afterConsume i).core := by
  obtain ⟨s1, h1, hc⟩ := s.afterConsume_cases i
  rw [← h1]
  rcases hc with hc | hc | hc <;> rw [hc]
  · exact s1.drainTest_later i
  · exact (s1.decideDeferred_steady i).later
  · exact (s1.decideDeferred_steady i).later.trans (State.drainTest_later _ i)

theorem State.afterConsume_sound (h : s.core.Sound) (hi : (s.core.ring i).state ≠ .closed) :
    (s.afterConsume i).core.Sound := by
  obtain ⟨s1, h1, hc⟩ := s.afterConsume_cases i
  rw [← h1] at h hi
  rcases hc with hc | hc | hc <;> rw [hc]
  · exact State.drainTest_sound h i
  · exact State.decideDeferred_sound h hi
  · exact State.drainTest_sound (State.decideDeferred_sound h hi) i

/-- R83: a consume changes nothing where no frame is in delivery; else it is the consume of the oldest frame in the ring, a
room event, the end test, and what follows it. -/
theorem State.consume_cases (s : State) (i : StreamId) :
    s.consume i = s
    ∨ ((s.core.ring i).delivery ≠ []
      ∧ ∃ s1 : State, s1.core = s.core.modRing i .consumeOldest
        ∧ s.consume i = (((s1.roomEvent i).endTest i).afterConsume i)) := by
  unfold State.consume
  split
  · exact .inl rfl
  · next e l hd =>
    refine .inr ⟨?_, _, ?_, rfl⟩
    · simp [hd]
    · rw [State.paceCount_core, State.spanConsume_core]
      exact State.modStream_core (by simp [Stream.ring, Ring.consumeOldest, Stream.consumeOldest])

theorem State.consume_later (s : State) (i : StreamId) : s.core.Later (s.consume i).core := by
  rcases s.consume_cases i with hc | ⟨-, s1, h1, hc⟩ <;> rw [hc]
  · exact .refl _
  · have hs1 : s.core.Steady s1.core := h1 ▸ .modRing _ _ fun _ => rfl
    exact (hs1.trans (s1.roomEvent_steady i)).later.trans
      ((State.endTest_later _ i).trans (State.afterConsume_later _ i))

/-- R83: a consume of a running session keeps the core in form. -/
theorem State.consume_sound (h : s.core.Sound) (hi : (s.core.ring i).state ≠ .closed) :
    (s.consume i).core.Sound := by
  rcases s.consume_cases i with hc | ⟨hd, s1, h1, hc⟩ <;> rw [hc]
  · exact h
  · have hr := h.ring i hi
    have hring : s1.core.ring i = (s.core.ring i).consumeOldest := h1 ▸ Core.modRing_ring_self ..
    have hsteady : s.core.Steady s1.core := h1 ▸ .modRing _ _ fun _ => rfl
    have hs1 : s1.core.Sound := h1 ▸ h.modRing ⟨rfl, rfl, id⟩ fun _ hr' => hr'.consume hd
    have hs2 : (s1.roomEvent i).core.Sound := State.roomEvent_sound hs1 fun _ => hring ▸ hr.room_of_consume hd
    have hphase : ((s1.roomEvent i).core.ring i).consumerPhase = (s.core.ring i).consumerPhase :=
      (s1.roomEvent_consumer i i).1.trans (congrArg (·.consumerPhase) hring)
    refine State.afterConsume_sound (State.endTest_sound hs2 ?_) (State.endTest_open ?_)
    · rw [hphase]
      exact hr.phase_of_delivery hd
    · rw [(hsteady.trans (s1.roomEvent_steady i)).state i]
      exact hi

/-! ### The Producer Path's beats -/

/-- R40 to R42, R52: a write beat ends the current frame or not, is a frame start or not, and is followed by the drain test
or not. -/
theorem State.producerBeat_cases (s : State) (i : StreamId) (p : PortId) (k : Nat) (data : Word) (full : Bool)
    (offset : Nat) :
    ∃ s1 s2 : State, (s1.core = s.core ∨ s1.core = (s.endProducerFrame i p).core)
      ∧ (s2.core = s1.core ∨ s2 = s1.producerFrameStart i p k data)
      ∧ (s.producerBeat i p k data full offset = s2 ∨ s.producerBeat i p k data full offset = s2.drainTest i) := by
  have hdrain (s2 : State) (abandoned : Bool) :
      s2.drainAfterAbandon i abandoned = s2 ∨ s2.drainAfterAbandon i abandoned = s2.drainTest i := by
    cases abandoned
    · exact .inl rfl
    · exact .inr rfl
  have hlost (reason : Word) := s.losePlacement_core i p reason
  unfold State.producerBeat
  dsimp only
  split
  · split_ifs
    · exact ⟨_, _, .inr (hlost _), .inl rfl, hdrain _ _⟩
    · exact ⟨s, _, .inl rfl, .inr rfl, .inl rfl⟩
    · exact ⟨s, _, .inl rfl, .inl (State.continueProducer_core ..), .inl rfl⟩
    · obtain ⟨s1, hearly, h1⟩ := s.earlyFrame_eq i p k data
      exact ⟨s1, _, .inr h1, .inr hearly, hdrain _ _⟩
    · exact ⟨_, _, .inr (hlost _), .inl rfl, hdrain _ _⟩
  · split_ifs
    · exact ⟨_, _, .inl (State.modProducer_placement_core s i (fun _ => .inStep) (·.position) (·.treatment)), .inr rfl,
        .inl rfl⟩
    · exact ⟨s, _, .inl rfl, .inl (State.closeSegment_core ..), .inl rfl⟩

theorem State.producerBeat_later (s : State) (i : StreamId) (p : PortId) (k : Nat) (data : Word) (full : Bool)
    (offset : Nat) : s.core.Later (s.producerBeat i p k data full offset).core := by
  obtain ⟨s1, s2, h1, h2, hc⟩ := s.producerBeat_cases i p k data full offset
  have hs1 : s.core.Steady s1.core := by
    rcases h1 with h1 | h1 <;> rw [h1]
    · exact .refl _
    · exact s.endProducerFrame_steady i p
  have hs2 : s.core.Steady s2.core := by
    rcases h2 with h2 | h2 <;> rw [h2]
    · exact hs1
    · exact hs1.trans (s1.producerFrameStart_steady i p k data)
  rcases hc with hc | hc <;> rw [hc]
  · exact hs2.later
  · exact hs2.later.trans (s2.drainTest_later i)

/-- R40: a write beat of a running session keeps the core in form. -/
theorem State.producerBeat_sound (h : s.core.Sound) (hi : (s.core.ring i).state ≠ .closed)
    (hw : s.core.WritesFor p i) (k : Nat) (data : Word) (full : Bool) (offset : Nat) :
    (s.producerBeat i p k data full offset).core.Sound := by
  obtain ⟨s1, s2, h1, h2, hc⟩ := s.producerBeat_cases i p k data full offset
  have hs1 : s1.core.Sound ∧ s.core.Steady s1.core ∧ s1.core.claim = s.core.claim := by
    rcases h1 with h1 | h1 <;> rw [h1]
    · exact ⟨h, .refl _, rfl⟩
    · exact ⟨State.endProducerFrame_sound h i p, s.endProducerFrame_steady i p, s.endProducerFrame_claim i p⟩
  obtain ⟨hs1, hsteady, hclaim⟩ := hs1
  have hs2 : s2.core.Sound := by
    rcases h2 with h2 | h2 <;> rw [h2]
    · exact hs1
    · exact State.producerFrameStart_sound hs1 (hsteady.state i ▸ hi) (hw.steady hsteady hclaim) k data
  rcases hc with hc | hc <;> rw [hc]
  · exact hs2
  · exact State.drainTest_sound hs2 i

end Closing

end Sys2Proof.Machine

namespace Sys2Proof.Machine

open Sys2Proof Sys2Proof.Safety

/-! ## The ports keep the core in form -/

section Ports

variable {s : State} {i : StreamId} {p : PortId}

/-! ### Transactions that end -/

theorem Port.endRead_claim (port : Port) : port.endRead.claim = none ∨ port.endRead.claim = port.claim := by
  unfold Port.endRead
  split
  · split
    · exact .inl rfl
    · exact .inr rfl
  · exact .inr rfl

theorem Port.completeWrite_claim (port : Port) :
    port.completeWrite.claim = none ∨ port.completeWrite.claim = port.claim := by
  unfold Port.completeWrite
  split
  · split
    · exact .inl rfl
    · exact .inr rfl
  · exact .inr rfl

/-- R37: a transaction ended with error keeps its class, and its hold ends. -/
theorem Port.endWithError_claim (port : Port) (onMemory : List SegmentBeat) :
    (port.endWithError onMemory).claim = port.claim.map Claim.release := by
  unfold Port.endWithError
  split
  · next h => simp [Port.claim, h]
  · next t h =>
    simp only [Port.claim, h, Option.map_some]
    split <;> rfl

theorem Port.endWithError_within (port : Port) (onMemory : List SegmentBeat) :
    Claim.Within (port.endWithError onMemory).claim port.claim := by
  rw [Port.endWithError_claim]
  exact Claim.within_release _

/-- A change of every port within its claim keeps the core in form. -/
theorem State.mapPorts_sound (h : s.core.Sound) {f : PortId → Port → Port}
    (hf : ∀ p, Claim.Within (f p (s.port p)).claim (s.port p).claim) : (s.mapPorts f).core.Sound :=
  h.of_claims rfl fun p => by
    rw [State.core_claim, State.port_mapPorts]
    exact hf p

/-- A change of every port outside its claim leaves the core. -/
theorem State.mapPorts_core_id {f : PortId → Port → Port} (hf : ∀ p, (f p (s.port p)).claim = (s.port p).claim) :
    (s.mapPorts f).core = s.core := by
  ext p : 2
  · rfl
  · rw [State.core_claim, State.port_mapPorts]
    exact hf p

/-! ### Responses -/

/-- R85: a faulted entry keeps its index and slot. -/
theorem map_place_faultEntry (l : List Delivery) (id : Nat) :
    (faultEntry l id).map Delivery.place = l.map Delivery.place := by
  simp only [faultEntry, List.map_map]
  refine List.map_congr_left fun e _ => ?_
  simp only [Function.comp_apply]
  split <;> rfl

/-- R82, R83, R85: the return of a REAL beat is a consume of its running stream, or leaves the core. -/
theorem State.realReturned_cases (s : State) (b : Binding) (m : RealMark) (r : Response) :
    ∃ s1 : State, s1.core = s.core
      ∧ (s.realReturned b m r = s1 ∨ (s.live b = true ∧ s.realReturned b m r = s1.consume b.stream)) := by
  have hlast (s1 : State) (h1 : s1.core = s.core) (hl : s.live b = true) (last : Bool) :
      ∃ s2 : State, s2.core = s.core
        ∧ ((if last then s1.consume b.stream else s1) = s2
          ∨ (s.live b = true ∧ (if last then s1.consume b.stream else s1) = s2.consume b.stream)) := by
    cases last
    · exact ⟨s1, h1, .inl rfl⟩
    · exact ⟨s1, h1, .inr ⟨hl, rfl⟩⟩
  unfold State.realReturned
  split
  · next hl =>
    dsimp only
    split
    · split
      · exact hlast _ (State.spanConsumerBeat_core ..) hl m.last
      · exact ⟨s, rfl, .inl rfl⟩
    · split
      · refine hlast _ ?_ hl m.last
        rw [State.spanConsumerError_core]
        split
        · rw [State.memfault_core]
          exact State.modConsumer_core_id rfl (map_place_faultEntry ..) rfl
        · rfl
      · exact ⟨_, State.memfault_core .., .inl rfl⟩
  · exact ⟨s, rfl, .inl rfl⟩

theorem State.realReturned_later (s : State) (b : Binding) (m : RealMark) (r : Response) :
    s.core.Later (s.realReturned b m r).core := by
  obtain ⟨s1, h1, hc | ⟨-, hc⟩⟩ := s.realReturned_cases b m r <;> rw [hc, ← h1]
  · exact .refl _
  · exact s1.consume_later _

theorem State.realReturned_sound (h : s.core.Sound) (b : Binding) (m : RealMark) (r : Response) :
    (s.realReturned b m r).core.Sound := by
  obtain ⟨s1, h1, hc | ⟨hl, hc⟩⟩ := s.realReturned_cases b m r <;> rw [hc]
  · rwa [h1]
  · rw [← h1] at h
    refine State.consume_sound h ?_
    rw [h1]
    exact ((State.live_iff b).mp hl).1

/-- R23: the response `r` of the slot that heads the port's list is returned upstream. -/
def Port.returnHead (port : Port) (r : Response) : Port :=
  { port with
    returned := port.returned ++ [r]
    txn := port.txn.map fun t => { t with responses := t.responses.drop 1 } }

/-- R23, R82: a returned response is the return of a REAL beat or leaves the core, and then the read may have ended. -/
theorem State.returnResponse_cases (s : State) (p : PortId) (x : ResponseSlot) (r : Response) :
    ∃ s1 s2 : State, s1.core = s.core ∧ (s2 = s1 ∨ ∃ b m, s2 = s1.realReturned b m r)
      ∧ s.returnResponse p x r = s2.modPort p Port.endRead := by
  refine ⟨s.modPort p (·.returnHead r), _, ?_, ?_, rfl⟩
  · refine State.modPort_core_id ?_
    simp only [Port.returnHead, Port.claim, Option.map_map]
    rfl
  · split
    · exact .inr ⟨_, _, rfl⟩
    · exact .inl rfl

theorem State.returnResponse_later (s : State) (p : PortId) (x : ResponseSlot) (r : Response) :
    s.core.Later (s.returnResponse p x r).core := by
  obtain ⟨s1, s2, h1, h2, hc⟩ := s.returnResponse_cases p x r
  rw [hc, ← h1]
  rcases h2 with rfl | ⟨b, m, rfl⟩
  · exact Core.Later.refl _
  · exact s1.realReturned_later b m r

theorem State.returnResponse_sound (h : s.core.Sound) (p : PortId) (x : ResponseSlot) (r : Response) :
    (s.returnResponse p x r).core.Sound := by
  obtain ⟨s1, s2, h1, h2, hc⟩ := s.returnResponse_cases p x r
  rw [← h1] at h
  have hs2 : s2.core.Sound := by
    rcases h2 with rfl | ⟨b, m, rfl⟩
    · exact h
    · exact State.realReturned_sound h b m r
  rw [hc]
  refine hs2.of_claims rfl fun q => Claim.within_of_eq ?_
  by_cases hq : q = p
  · subst hq
    rw [State.core_claim, State.port_modPort_self]
    exact Port.endRead_claim _
  · rw [State.core_claim, State.port_modPort_ne _ hq]
    exact .inr rfl

theorem State.returnDue_later (n : Nat) (s : State) : s.core.Later (State.returnDue n s).core := by
  induction n generalizing s with
  | zero => exact .refl _
  | succ n ih =>
    rw [State.returnDue]
    split
    · exact .refl _
    · exact (s.returnResponse_later _ _ _).trans (ih _)

theorem State.returnDue_sound (h : s.core.Sound) (n : Nat) : (State.returnDue n s).core.Sound := by
  induction n generalizing s with
  | zero => exact h
  | succ n ih =>
    rw [State.returnDue]
    split
    · exact h
    · exact ih (State.returnResponse_sound h _ _ _)

theorem State.settle_later (s : State) : s.core.Later s.settle.core := State.returnDue_later _ s

/-- R23: what is due upstream may be returned. -/
theorem State.settle_sound (h : s.core.Sound) : s.settle.core.Sound :=
  State.mapPorts_sound (State.returnDue_sound h _) fun _ => Claim.within_of_eq (Port.completeWrite_claim _)

/-! ### Classification -/

/-- R29: a class bound to a stream is that of the producer or the consumer of the window the transaction lies in. -/
theorem State.classify_bound (s : State) (p : PortId) (dir : Dir) (addr : Word) (beats : Nat) :
    s.core.Bound p (s.classify p dir addr beats) := by
  have hwindow (i : StreamId) : s.core.Bound p (s.classInWindow i p dir) := by
    unfold State.classInWindow
    dsimp only
    split_ifs with hw hr
    · exact ⟨by rintro b ⟨⟩; exact ⟨le_rfl, fun _ => ⟨hw.2, rfl⟩⟩, by rintro b ⟨⟩⟩
    · exact ⟨by rintro b ⟨⟩, by rintro b ⟨⟩; exact ⟨le_rfl, fun _ => ⟨hr.2, rfl⟩⟩⟩
    · cases (s.stream i).desc.observerPolicy <;> exact ⟨by rintro b ⟨⟩, by rintro b ⟨⟩⟩
  unfold State.classify
  dsimp only
  split
  · exact ⟨by rintro b ⟨⟩, by rintro b ⟨⟩⟩
  · split
    · exact hwindow _
    · exact ⟨by rintro b ⟨⟩, by rintro b ⟨⟩⟩
  · exact ⟨by rintro b ⟨⟩, by rintro b ⟨⟩⟩

@[simp] theorem State.classificationNotice_core (s : State) (p : PortId) (addr : Word) (cls : TransactionClass) :
    (s.classificationNotice p addr cls).core = s.core := by
  cases cls <;> rfl

/-- A claim with its class replaced. -/
def Claim.withClass (cls : TransactionClass) (k : Claim) : Claim := { k with cls := some cls }

@[simp] theorem State.assignClass_core (s : State) (p : PortId) (cls : TransactionClass) (t : Transaction) :
    (s.assignClass p cls t).core = s.core.modClaim p (.withClass cls) := by
  have hcls : (s.modTxn p fun t => { t with cls := some cls }).core = s.core.modClaim p (.withClass cls) :=
    State.modTxn_core fun _ => rfl
  unfold State.assignClass
  dsimp only
  split <;> simp [hcls]

theorem Transaction.startRead_claim (t : Transaction) (cls : TransactionClass) : (t.startRead cls).claim = t.claim := by
  unfold Transaction.startRead
  split_ifs <;> rfl

/-- A port may take a claim that holds no beat. -/
theorem Core.Sound.setFreeClaim {c : Core} {cls : Option TransactionClass} (h : c.Sound)
    (hcls : ∀ x ∈ cls, c.Bound p x) : (c.setClaim p ⟨cls, false⟩).Sound :=
  h.setClaim hcls (fun hf => absurd hf Bool.false_ne_true) (fun hf => absurd hf Bool.false_ne_true)

theorem Core.setClaim_modClaim (c : Core) (p : PortId) (k : Claim) (g : Claim → Claim) :
    (c.setClaim p k).modClaim p g = c.setClaim p (g k) := by
  simp [Core.setClaim, Core.modClaim]

/-- A port that takes a new transaction takes its claim. -/
theorem State.modPort_core_set {f : Port → Port} {k : Claim} (hf : (f (s.port p)).claim = some k) :
    (s.modPort p f).core = s.core.setClaim p k := by
  ext q : 2
  · rfl
  · by_cases hq : q = p
    · subst hq
      simp [Core.setClaim, hf]
    · simp [Core.setClaim, hq]

/-- R21, R24: the claim of a request just taken holds no beat, and its class, if it has one, is bound. -/
theorem State.acceptRequest_core (s : State) (p : PortId) (dir : Dir) (addr : Word) (beats : Nat) :
    ∃ cls : Option TransactionClass, (∀ x ∈ cls, s.core.Bound p x)
      ∧ (s.acceptRequest p dir addr beats).core = s.core.setClaim p ⟨cls, false⟩ := by
  have hover : s.core.Bound p .overRange := ⟨by rintro b ⟨⟩, by rintro b ⟨⟩⟩
  have hstart : (s.modPort p fun port =>
      { port with txn := some (Transaction.start dir addr beats), segments := [], newestOpen := false, returned := [],
                  completion := none }).core = s.core.setClaim p ⟨none, false⟩ := State.modPort_core_set rfl
  unfold State.acceptRequest
  dsimp only
  split
  · refine ⟨some .overRange, by rintro x ⟨⟩; exact hover, ?_⟩
    split
    · rw [State.modTxn_core (g := .withClass .overRange) (by intro; exact Transaction.startRead_claim ..), hstart,
        Core.setClaim_modClaim]
      rfl
    · rw [State.modTxn_core (g := .withClass .overRange) (by intro; rfl), hstart, Core.setClaim_modClaim]
      rfl
  · split
    · refine ⟨some (s.classify p .read addr beats), by rintro x ⟨⟩; exact s.classify_bound p .read addr beats, ?_⟩
      rw [State.assignClass_core, State.modTxn_core_id (by intro; exact Transaction.startRead_claim ..), hstart,
        Core.setClaim_modClaim]
      rfl
    · exact ⟨none, by rintro x ⟨⟩, hstart⟩

theorem State.acceptRequest_sound (h : s.core.Sound) (p : PortId) (dir : Dir) (addr : Word) (beats : Nat) :
    (s.acceptRequest p dir addr beats).core.Sound := by
  obtain ⟨cls, hcls, hc⟩ := s.acceptRequest_core p dir addr beats
  rw [hc]
  exact h.setFreeClaim hcls

theorem State.acceptRequest_later (s : State) (p : PortId) (dir : Dir) (addr : Word) (beats : Nat) :
    s.core.Later (s.acceptRequest p dir addr beats).core := by
  obtain ⟨cls, -, hc⟩ := s.acceptRequest_core p dir addr beats
  rw [hc]
  exact Core.Later.refl _

/-! ### Write beats -/

@[simp] theorem State.deliverData_core (s : State) (p : PortId) (k : Nat) (data : Word) (enables : BitVec 4) :
    (s.deliverData p k data enables).core = s.core := by
  refine Eq.trans (State.core_congr rfl rfl) (State.modPort_core_id (s := s) (p := p) (f := fun port =>
    { port with segments := port.segments.map fun g => g.setData k data enables
                txn := port.txn.map fun t => { t with outstanding := t.outstanding + 1 } }) ?_)
  simp only [Port.claim, Option.map_map]
  rfl

/-- R22, R32: a write beat is handed to the Producer Path of the running session its transaction is bound to, or leaves the
core. -/
theorem State.disposeWrite_cases (s : State) (p : PortId) (t : Transaction) (cls : TransactionClass) (data : Word)
    (enables : BitVec 4) :
    (s.disposeWrite p t cls data enables).core = s.core
    ∨ ∃ b k full offset, cls = .producer b ∧ s.live b = true
      ∧ s.disposeWrite p t cls data enables = s.producerBeat b.stream p k data full offset := by
  have herror : (s.modTxn p fun t => { t with anyError := true }).core = s.core := State.modTxn_core_id fun _ => rfl
  unfold State.disposeWrite
  dsimp only
  split
  · exact .inl (State.deliverData_core ..)
  · exact .inl (State.deliverData_core ..)
  · exact .inl herror
  · exact .inl herror
  · exact .inl herror
  · split
    · exact .inl rfl
    · split
      · next hl => exact .inr ⟨_, _, _, _, rfl, hl, rfl⟩
      · exact .inl (State.closeSegment_core ..)
  · exact .inl rfl

theorem State.disposeWrite_later (s : State) (p : PortId) (t : Transaction) (cls : TransactionClass) (data : Word)
    (enables : BitVec 4) : s.core.Later (s.disposeWrite p t cls data enables).core := by
  rcases s.disposeWrite_cases p t cls data enables with hc | ⟨b, k, full, offset, -, -, hc⟩ <;> rw [hc]
  · exact .refl _
  · exact s.producerBeat_later _ _ _ _ _ _

/-- R32: a write beat of a port that holds none keeps the core in form. -/
theorem State.disposeWrite_sound {cls : TransactionClass} (h : s.core.Sound)
    (hclaim : s.core.claim p = some ⟨some cls, false⟩) (t : Transaction) (data : Word) (enables : BitVec 4) :
    (s.disposeWrite p t cls data enables).core.Sound := by
  rcases s.disposeWrite_cases p t cls data enables with hc | ⟨b, k, full, offset, rfl, hl, hc⟩ <;> rw [hc]
  · exact h
  · have hlive := (State.live_iff b).mp hl
    refine State.producerBeat_sound h hlive.1 ⟨?_, ?_, ?_⟩ k data full offset
    · exact (((h.bound p _ _ hclaim rfl).producer b rfl).2 hlive).1
    · rintro x hx
      obtain rfl := Option.some.inj (hclaim.symm.trans hx)
      rfl
    · rintro x cls hx hcls
      obtain rfl := Option.some.inj (hclaim.symm.trans hx)
      exact ⟨b, (Option.some.inj hcls).symm, rfl⟩

/-- R22, R28: the core once the next write beat is accepted: the claim of the port has a bound class and holds no beat. -/
theorem State.acceptWrite_cases {t : Transaction} (ht : (s.port p).txn = some t) (hhold : t.hold = none) (data : Word)
    (enables : BitVec 4) :
    ∃ (s1 : State) (cls : TransactionClass), (t.cls = some cls ∨ s.core.Bound p cls)
      ∧ s1.core = s.core.setClaim p ⟨some cls, false⟩
      ∧ s.acceptWrite p t data enables = s1.disposeWrite p t cls data enables := by
  have hclaim : s.core.claim p = some ⟨t.cls, false⟩ := by simp [Port.claim, ht, Transaction.claim, hhold]
  have hposition (s' : State) : (s'.modTxn p fun t => { t with position := t.position + 1 }).core = s'.core :=
    State.modTxn_core_id fun _ => rfl
  cases hcls : t.cls with
  | none =>
    refine ⟨(s.assignClass p (s.classify p .write t.addr t.beats) t).modTxn p fun t =>
      { t with position := t.position + 1 }, s.classify p .write t.addr t.beats, .inr (s.classify_bound ..), ?_, ?_⟩
    · rw [hposition, State.assignClass_core, Core.modClaim_eq_setClaim hclaim]
      rfl
    · simp [State.acceptWrite, hcls]
  | some cls =>
    refine ⟨s.modTxn p fun t => { t with position := t.position + 1 }, cls, .inl rfl, ?_, ?_⟩
    · rw [hposition]
      rw [hcls] at hclaim
      ext q : 2
      · rfl
      · by_cases hq : q = p
        · subst hq
          simpa [Core.setClaim] using hclaim
        · simp [Core.setClaim, hq]
    · simp [State.acceptWrite, hcls]

theorem State.acceptWrite_later {t : Transaction} (ht : (s.port p).txn = some t) (hhold : t.hold = none) (data : Word)
    (enables : BitVec 4) : s.core.Later (s.acceptWrite p t data enables).core := by
  obtain ⟨s1, cls, -, h1, hc⟩ := State.acceptWrite_cases ht hhold data enables
  have hs1 : s.core.Later s1.core := h1 ▸ Core.Later.refl s.core
  rw [hc]
  exact hs1.trans (s1.disposeWrite_later p t cls data enables)

/-- R22: an accepted write beat keeps the core in form. -/
theorem State.acceptWrite_sound {t : Transaction} (h : s.core.Sound) (ht : (s.port p).txn = some t)
    (hhold : t.hold = none) (data : Word) (enables : BitVec 4) : (s.acceptWrite p t data enables).core.Sound := by
  obtain ⟨s1, cls, hcls, h1, hc⟩ := State.acceptWrite_cases ht hhold data enables
  have hbound : s.core.Bound p cls := by
    rcases hcls with hcls | hbound
    · exact h.bound p t.claim cls (by simp [Port.claim, ht]) hcls
    · exact hbound
  have hs1 : s1.core.Sound := h1 ▸ h.setFreeClaim (by rintro x ⟨⟩; exact hbound)
  rw [hc]
  exact State.disposeWrite_sound hs1 (by simp [h1, Core.setClaim]) t data enables

/-! ### Read beats -/

/-- R77, R36: a read beat is handed to the Consumer Path of the running session its transaction is bound to, or leaves the
core. -/
theorem State.handRead_cases (s : State) (p : PortId) (t : Transaction) (b : Binding) :
    ∃ s1 : State, s1.core = s.core
      ∧ (s.handRead p t b = s1
        ∨ (s1.live b = true ∧ ∃ k offset, s.handRead p t b = s1.consumerBeat b.stream p k offset)) := by
  have hhand : (s.modTxn p fun x =>
      { x with position := x.position + 1
               responses := x.responses ++ [{ beat := t.position, mark := none, value := none }] }).core = s.core :=
    State.modTxn_core_id fun _ => rfl
  unfold State.handRead
  dsimp only
  split
  · next hl => exact ⟨_, hhand, .inr ⟨hl, _, _, rfl⟩⟩
  · exact ⟨_, (State.answerBeat_core ..).trans hhand, .inl rfl⟩

theorem State.handRead_later (s : State) (p : PortId) (t : Transaction) (b : Binding) :
    s.core.Later (s.handRead p t b).core := by
  obtain ⟨s1, h1, hc | ⟨-, k, offset, hc⟩⟩ := s.handRead_cases p t b <;> rw [hc, ← h1]
  · exact .refl _
  · exact (s1.consumerBeat_steady _ _ _ _).later

/-- R77: a read beat handed on keeps the core in form. -/
theorem State.handRead_sound {b : Binding} (h : s.core.Sound)
    (hclaim : ∀ k, s.core.claim p = some k → k.cls = some (.consumer b)) (t : Transaction) :
    (s.handRead p t b).core.Sound := by
  obtain ⟨s1, h1, hc | ⟨hl, k, offset, hc⟩⟩ := s.handRead_cases p t b <;> rw [← h1] at h hclaim <;> rw [hc]
  · exact h
  · refine State.consumerBeat_sound h ((State.live_iff b).mp hl).1 (fun x cls hx hcls => ?_) k offset
    rw [hclaim x hx] at hcls
    exact ⟨b, (Option.some.inj hcls).symm, rfl⟩

/-! ### Hold timers -/

/-- R66, R89: an expiry begins the overrun or the underrun condition of the running session, or leaves the core. -/
theorem State.takeExpiry_cases (s : State) (p : PortId) (t : Transaction) :
    (s.takeExpiry p t).core = s.core
    ∨ (∃ b, t.cls = some (.producer b) ∧ s.live b = true
        ∧ (s.takeExpiry p t).core = ((s.endHold p).beginOverrun b.stream p).core)
    ∨ ∃ b, t.cls = some (.consumer b) ∧ s.live b = true
        ∧ (s.takeExpiry p t).core = ((s.endHold p).beginUnderrun b.stream).core := by
  unfold State.takeExpiry
  split
  · next b hcls =>
    split
    · next hl => exact .inr (.inl ⟨b, hcls, hl, rfl⟩)
    · exact .inl rfl
  · next b hcls =>
    split
    · next hl => exact .inr (.inr ⟨b, hcls, hl, State.fillFrame_core ..⟩)
    · exact .inl rfl
  · exact .inl rfl

theorem State.takeExpiry_later (s : State) (p : PortId) (t : Transaction) : s.core.Later (s.takeExpiry p t).core := by
  have hhold : s.core.Later (s.endHold p).core := State.endHold_core s p ▸ Core.Later.refl s.core
  rcases s.takeExpiry_cases p t with hc | ⟨b, -, -, hc⟩ | ⟨b, -, -, hc⟩ <;> rw [hc]
  · exact .refl _
  · rw [State.beginOverrun_core]
    exact hhold.trans (Core.later_modRing ⟨rfl, rfl, id⟩)
  · rw [State.beginUnderrun_core]
    exact hhold.trans (Core.later_modRing ⟨rfl, rfl, id⟩)

/-- R66, R89: the expiry of a held beat's timer keeps the core in form. -/
theorem State.takeExpiry_sound {t : Transaction} (h : s.core.Sound) (ht : (s.port p).txn = some t)
    (hhold : t.hold ≠ none) : (s.takeExpiry p t).core.Sound := by
  have hheld (cls : TransactionClass) (hcls : t.cls = some cls) : s.core.claim p = some ⟨some cls, true⟩ :=
    (State.core_claim_held_iff p cls).mpr ⟨t, ht, hhold, hcls⟩
  have hrel := h.release p
  rcases s.takeExpiry_cases p t with hc | ⟨b, hcls, hl, hc⟩ | ⟨b, hcls, hl, hc⟩ <;> rw [hc]
  · exact h
  · obtain ⟨hopen, hsession⟩ := (State.live_iff b).mp hl
    have hclaim := hheld _ hcls
    have hport := (((h.bound p _ _ hclaim rfl).producer b rfl).2 ⟨hopen, hsession⟩).1
    have hphase := ((h.ring _ hopen).producerHold ⟨p, b, hclaim, rfl, hsession⟩).1
    have hnot := hrel.not_holdsProducer hopen fun _ hk =>
      Core.held_modClaim_release s.core p (by rwa [Core.modClaim_ring, ← hport] at hk)
    rw [State.beginOverrun_core, State.endHold_core]
    exact hrel.modRing ⟨rfl, rfl, id⟩ fun _ hr =>
      hr.withProducerPhase (hphase.trans_ne (by decide)) fun hp => absurd hp hnot
  · obtain ⟨hopen, hsession⟩ := (State.live_iff b).mp hl
    have hclaim := hheld _ hcls
    have hport := (((h.bound p _ _ hclaim rfl).consumer b rfl).2 ⟨hopen, hsession⟩).1
    have hdry := ((h.ring _ hopen).consumerHold ⟨p, b, hclaim, rfl, hsession⟩).2
    have hnot := hrel.not_holdsConsumer hopen fun _ hk =>
      Core.held_modClaim_release s.core p (by rwa [Core.modClaim_ring, ← hport] at hk)
    rw [← State.endHold_core] at hrel hnot
    exact State.beginUnderrun_sound hrel (fun _ => hnot) hdry

end Ports

end Sys2Proof.Machine

namespace Sys2Proof.Machine

open Sys2Proof Sys2Proof.Safety

/-! ## OPEN's checks, as the statements have them (R12 to R16) -/

section OpenChecks

/-- A bit vector is the one that spells `n` where its value is `n`. -/
theorem bitVec_eq_ofNat_iff {w n : Nat} (x : BitVec w) (hn : n < 2 ^ w) : x = BitVec.ofNat w n ↔ x.toNat = n := by
  rw [← BitVec.toNat_inj, BitVec.toNat_ofNat, Nat.mod_eq_of_lt hn]

/-- R13: the RANGE check. -/
theorem rangeCheck_iff (r : RawDescriptor) : rangeCheck r = true ↔ DescriptorInRange r := by
  have hcode (x : Byte) (n : Nat) (hn : n < 2 ^ 8) := bitVec_eq_ofNat_iff x hn
  have hone (x : Nat) : x ≤ 1 ↔ x = 0 ∨ x = 1 := by omega
  have htwo (x : Nat) : x ≤ 2 ↔ x = 0 ∨ x = 1 ∨ x = 2 := by omega
  have hsample (x : Nat) : (2 ≤ x ∧ x ≤ 4) ↔ (x = 2 ∨ x = 3 ∨ x = 4) := by omega
  have hlimit (x : Nat) (y : Byte) : (¬ x = 1 ∨ 1 ≤ y.toNat ∧ y.toNat ≤ 255) ↔ (x = 1 → ¬ y.toNat = 0) := by
    have := y.isLt
    omega
  have hrestart (x d : Nat) : (1 ≤ x ∧ x ≤ d - 1) ↔ (1 ≤ x ∧ x < d) := by omega
  have hbudget : r.budget.toNat ≤ 16777215 := by
    have := r.budget.isLt
    omega
  have hlast (x : Nat) : x - 1 ≤ 0xFFFFFFFF ↔ x ≤ 0x100000000 := by omega
  simp only [rangeCheck, Bool.and_eq_true, Bool.or_eq_true, beq_iff_eq, bne_iff_ne, decide_eq_true_eq]
  simp only [DescriptorInRange, rawFrameBytes, rawBodyLast, Config.maxBudget, hcode _ 0 (by decide),
    hcode _ 1 (by decide), hcode _ 2 (by decide), ne_eq, hone, htwo, hsample, hlimit, hrestart, hbudget, hlast,
    and_assoc, true_and]

/-- R14: the SPAN check. -/
theorem spanCheck_iff (r : RawDescriptor) : spanCheck r = true ↔ SpanFits r := by
  simp [spanCheck, SpanFits, bitVec_eq_ofNat_iff r.spanLength (n := 0) (by decide)]

/-- R15: the CONFLICT check. -/
theorem conflictCheck_iff (r : RawDescriptor) : conflictCheck r = true ↔ PortsFit r := by
  simp only [conflictCheck, PortsFit, Bool.or_eq_true, bne_iff_ne, Bool.not_eq_true', beq_eq_false_iff_ne,
    Bool.or_eq_false_iff, ← BitVec.toNat_inj, ne_eq]
  exact or_iff_not_imp_left.trans (imp_congr_left Decidable.not_not)

/-- R3: a descriptor in range has frames of at least 2 bytes, in a body of at least 4. -/
theorem rawFrameBytes_pos {r : RawDescriptor} (h : DescriptorInRange r) :
    1 ≤ rawFrameBytes r ∧ 1 ≤ r.depth.toNat * rawFrameBytes r := by
  obtain ⟨-, ⟨hch, -⟩, hsb, ⟨hdepth, -⟩, -⟩ := h
  have hsb : 1 ≤ r.sampleBytes.toNat := by omega
  have hframe : 1 ≤ rawFrameBytes r := Nat.mul_pos hch hsb
  exact ⟨hframe, Nat.mul_pos (by omega) hframe⟩

/-- The stream numbers are all there. -/
theorem mem_allStreams (i : StreamId) : i ∈ allStreams := by
  fin_cases i <;> simp [allStreams]

/-- R16: no stream that is not CLOSED has a byte in the new body. -/
theorem State.overlapsOther_eq_false_iff (s : State) (i : StreamId) (r : RawDescriptor) :
    s.overlapsOther i r = false ↔ ∀ j : StreamId, j ≠ i → (s.stream j).state ≠ .closed →
      rawBodyLast r < (s.stream j).desc.base.toNat ∨ (s.stream j).desc.bodyLast.toNat < r.base.toNat := by
  simp only [State.overlapsOther, List.any_eq_false, mem_allStreams, true_imp_iff, Stream.hasWindow, rangesMeet,
    Bool.and_eq_true, bne_iff_ne, decide_eq_true_eq, not_and, not_le, and_imp]
  refine forall_congr' fun j => imp_congr_right fun _ => imp_congr_right fun _ => ?_
  omega

/-- R16: the OVERLAP check. -/
theorem State.overlapsOther_iff {s : State} {i : StreamId} {r : RawDescriptor} (h : DescriptorInRange r) :
    s.overlapsOther i r = false ↔ BodyFree s i r := by
  have hpos : 1 ≤ r.depth.toNat * (r.channels.toNat * r.sampleBytes.toNat) := (rawFrameBytes_pos h).2
  rw [State.overlapsOther_eq_false_iff]
  refine forall_congr' fun j => imp_congr_right fun _ => imp_congr_right fun _ => or_congr_left ?_
  simp only [rawBodyLast, rawFrameBytes]
  omega

/-! ## OPEN (R12, R17) -/

/-- R156: a target byte that names stream `i`. -/
theorem streamTarget_of_eq {target : Byte} {i : StreamId} (h : target.toNat = i.val) : streamTarget target = some i := by
  simp [streamTarget, h]

/-- R156: a target byte above 15 names no stream. -/
theorem streamTarget_of_ge {target : Byte} (h : 16 ≤ target.toNat) : streamTarget target = none := by
  simp [streamTarget, h]

/-- A completed frame whose command changes nothing leaves its answer behind. -/
theorem State.completeFrame_of_unchanged {s : State} {c : Instr} {command : State → State × Answer} {a : Answer}
    (h : ∀ f, command (s.modSpi f) = (s.modSpi f, a)) :
    s.completeFrame (frameOf c) command = answered s c a.code.byte a.bytes := by
  rw [State.completeFrame_eq, h]
  rfl

/-- The row OPEN, where the port is receiving its frame, completes the frame. -/
theorem exec_openStream {s : State} {target : Byte} {r : RawDescriptor} (h : Receiving s (.openStream target r)) :
    exec (.openStream target r) s
      = .next (s.completeFrame (frameOf (.openStream target r)) (State.openCommand target r)) :=
  congrArg _ (State.frameRow_of_receiving h)

/-- R12: an OPEN of a target that names no stream answers RANGE and changes nothing. -/
theorem exec_openStream_no_target {s : State} {target : Byte} {r : RawDescriptor}
    (h : Receiving s (.openStream target r)) (ht : 16 ≤ target.toNat) :
    exec (.openStream target r) s = .next (answered s (.openStream target r) 0x03#8 []) := by
  rw [exec_openStream h]
  refine congrArg _ (State.completeFrame_of_unchanged (a := Answer.plain .range) fun f => ?_)
  simp [State.openCommand, streamTarget_of_ge ht]

/-- R12: a refused OPEN answers its refusal and changes nothing. -/
theorem exec_openStream_refused {s : State} {target : Byte} {r : RawDescriptor} {i : StreamId} {code : ResultCode}
    (h : Receiving s (.openStream target r)) (ht : target.toNat = i.val) (hc : s.openRefusal i r = some code) :
    exec (.openStream target r) s = .next (answered s (.openStream target r) code.byte []) := by
  rw [exec_openStream h]
  refine congrArg _ (State.completeFrame_of_unchanged (a := Answer.plain code) fun f => ?_)
  have hc : (s.modSpi f).openRefusal i r = some code := hc
  simp [State.openCommand, streamTarget_of_eq ht, hc]

/-- R17: an OPEN that no check refuses opens the stream. -/
theorem exec_openStream_accepted {s : State} {target : Byte} {r : RawDescriptor} {i : StreamId}
    (h : Receiving s (.openStream target r)) (ht : target.toNat = i.val) (hc : s.openRefusal i r = none) :
    exec (.openStream target r) s
      = .next { answered s (.openStream target r) 0x01#8 [] with
          streams := s.streams.set i (Stream.opened (storedDescriptor r) s.initial ((s.stream i).session + 1)) } := by
  have hcommand (f : Management → Management) : State.openCommand target r (s.modSpi f)
      = ((s.modSpi f).modStream i fun st => Stream.opened (storedDescriptor r) s.initial (st.session + 1),
          Answer.plain .ok) := by
    have hc : (s.modSpi f).openRefusal i r = none := hc
    simp [State.openCommand, streamTarget_of_eq ht, hc]
  rw [exec_openStream h, State.completeFrame_eq, hcommand]
  rfl

/-- Settles O12: the refusals are the checks of `State.openRefusal`, each of which is the statement's, in their order. -/
theorem openAnswersItsFirstFailingCheckOrStartsTheStream :
    Obligations.OpenAnswersItsFirstFailingCheckOrStartsTheStream := by
  refine ⟨fun s target r h => ⟨exec_openStream_no_target h, fun i ht => ⟨?_, ?_, ?_, ?_, ?_⟩⟩, ?_⟩
  · intro hopen
    exact exec_openStream_refused (code := .state) h ht (by simp [State.openRefusal, hopen])
  · intro hclosed hrange
    have hrange : rangeCheck r = false := by simpa using mt (rangeCheck_iff r).mp hrange
    exact exec_openStream_refused (code := .range) h ht (by simp [State.openRefusal, hclosed, hrange])
  · intro hclosed hrange hspan
    have hspan : spanCheck r = false := by simpa using mt (spanCheck_iff r).mp hspan
    exact exec_openStream_refused (code := .span) h ht
      (by simp [State.openRefusal, hclosed, (rangeCheck_iff r).mpr hrange, hspan])
  · intro hclosed hrange hspan hports
    have hports : conflictCheck r = false := by simpa using mt (conflictCheck_iff r).mp hports
    exact exec_openStream_refused (code := .conflict) h ht
      (by simp [State.openRefusal, hclosed, (rangeCheck_iff r).mpr hrange, (spanCheck_iff r).mpr hspan, hports])
  · intro hclosed hrange hspan hports hbody
    have hbody : s.overlapsOther i r = true := by simpa using mt (State.overlapsOther_iff hrange).mp hbody
    exact exec_openStream_refused (code := .overlap) h ht
      (by simp [State.openRefusal, hclosed, (rangeCheck_iff r).mpr hrange, (spanCheck_iff r).mpr hspan,
        (conflictCheck_iff r).mpr hports, hbody])
  · intro s i target r ht h hclosed hrange hspan hports hbody
    have haccepted : s.openRefusal i r = none := by
      simp [State.openRefusal, hclosed, (rangeCheck_iff r).mpr hrange, (spanCheck_iff r).mpr hspan,
        (conflictCheck_iff r).mpr hports, (State.overlapsOther_iff hrange).mpr hbody]
    have hlength : (storedDescriptor r).spanLength = 0 ↔ r.spanLength = 0#16 :=
      (bitVec_eq_ofNat_iff r.spanLength (by decide)).symm
    rw [exec_openStream_accepted h ht haccepted]
    simp only [Stream.opened, hlength]
    rfl

end OpenChecks

end Sys2Proof.Machine

namespace Sys2Proof.Machine

open Sys2Proof Sys2Proof.Safety

/-! ## The memory controller's results keep the core in form -/

section Memory

variable {s : State} {i : StreamId} {p : PortId}

/-- R47: the completion of a beat leaves the index and slot of every in-flight frame. -/
theorem map_place_completeBeat (l : List InFlight) (entry : Nat) :
    (completeBeat l entry).map InFlight.place = l.map InFlight.place := by
  simp only [completeBeat, List.map_map]
  refine List.map_congr_left fun e _ => ?_
  simp only [Function.comp_apply]
  split <;> rfl

/-- R47, R49: the completion of a beat leaves the core, or is a commit with a frame in flight. -/
theorem State.beatOkay_cases (s : State) (i : StreamId) (x : SegmentBeat) :
    ∃ s1 : State, s1.core = s.core
      ∧ (s.beatOkay i x = s1 ∨ ((s.core.ring i).inFlight ≠ [] ∧ s.beatOkay i x = s1.commit i)) := by
  refine ⟨s.modProducer i fun ps => { ps with inFlight := completeBeat ps.inFlight x.entry },
    State.modProducer_core_id rfl (map_place_completeBeat ..), ?_⟩
  unfold State.beatOkay
  dsimp only
  split
  · next h =>
    refine .inr ⟨fun hnil => ?_, rfl⟩
    have hnil : (s.stream i).producer.inFlight = [] := List.map_eq_nil_iff.mp hnil
    simp [hnil] at h
  · exact .inl rfl

theorem State.beatOkay_steady (s : State) (i : StreamId) (x : SegmentBeat) :
    s.core.Steady (s.beatOkay i x).core := by
  obtain ⟨s1, h1, hc | ⟨-, hc⟩⟩ := s.beatOkay_cases i x <;> rw [hc, ← h1]
  · exact .refl _
  · exact s1.commit_steady i

theorem State.beatOkay_sound (h : s.core.Sound) (hi : (s.core.ring i).state ≠ .closed) (x : SegmentBeat) :
    (s.beatOkay i x).core.Sound := by
  obtain ⟨s1, h1, hc | ⟨hl, hc⟩⟩ := s.beatOkay_cases i x <;> rw [← h1] at h hi <;> rw [hc]
  · exact h
  · exact State.commit_sound h hi (h1 ▸ hl)

theorem State.producerOkay_steady (s : State) (i : StreamId) (beats : List SegmentBeat) :
    s.core.Steady (s.producerOkay i beats).core := by
  unfold State.producerOkay
  induction beats generalizing s with
  | nil => exact .refl _
  | cons x beats ih => exact (s.beatOkay_steady i x).trans (ih _)

/-- R49, R50: the OKAY completion of a producer segment keeps the core in form. -/
theorem State.producerOkay_sound (h : s.core.Sound) (hi : (s.core.ring i).state ≠ .closed) (beats : List SegmentBeat) :
    (s.producerOkay i beats).core.Sound := by
  unfold State.producerOkay
  induction beats generalizing s with
  | nil => exact h
  | cons x beats ih => exact ih (State.beatOkay_sound h hi x) ((s.beatOkay_steady i x).state i ▸ hi)

/-- R53, R54: the ERROR completion of a producer segment abandons the frames from the oldest it was forwarded for on, which
makes room, and makes the drain test; or it leaves the core. -/
theorem State.producerError_cases (s : State) (i : StreamId) (p : PortId) (beats : List SegmentBeat) :
    (s.producerError i p beats).core = s.core
    ∨ ∃ (n : Nat) (s1 : State), n < (s.core.ring i).inFlight.length ∧ s1.core = s.core.modRing i (.keep n)
        ∧ s.producerError i p beats = (s1.roomEvent i).drainTest i := by
  unfold State.producerError
  dsimp only
  split
  · next n hn =>
    obtain ⟨hlt, -⟩ := List.findIdx?_eq_some_iff_findIdx_eq.mp hn
    refine .inr ⟨n, _, by simpa using hlt, ?_, rfl⟩
    simp
  · split
    · exact .inl (State.memfault_core ..)
    · exact .inl rfl

theorem State.producerError_later (s : State) (i : StreamId) (p : PortId) (beats : List SegmentBeat) :
    s.core.Later (s.producerError i p beats).core := by
  rcases s.producerError_cases i p beats with hc | ⟨n, s1, -, h1, hc⟩ <;> rw [hc]
  · exact .refl _
  · have hs1 : s.core.Steady s1.core := h1 ▸ .modRing _ _ fun _ => rfl
    exact (hs1.trans (s1.roomEvent_steady i)).later.trans (State.drainTest_later _ i)

theorem State.producerError_sound (h : s.core.Sound) (p : PortId) (beats : List SegmentBeat) :
    (s.producerError i p beats).core.Sound := by
  rcases s.producerError_cases i p beats with hc | ⟨n, s1, hn, h1, hc⟩ <;> rw [hc]
  · exact h
  · have hs1 : s1.core.Sound := h1 ▸ h.keep i n
    refine State.drainTest_sound (State.roomEvent_sound hs1 fun hi => ?_) i
    rw [h1, Core.modRing_ring_self] at hi ⊢
    exact (h.ring i hi).room_of_keep hn

/-- R139, R140: the result of a write segment is handed to the Producer Path of the running session it is bound to, or
leaves the core. -/
theorem State.writeResult_cases (s : State) (g : Granted) (r : BusStatus) :
    ∃ s1 : State, s1.core = s.core
      ∧ (s.writeResult g r = s1
        ∨ ∃ b, s.live b = true ∧ (s.writeResult g r = s1.producerOkay b.stream g.segment.beats
            ∨ s.writeResult g r = s1.producerError b.stream g.owner g.segment.beats)) := by
  refine ⟨s.modTxn g.owner fun t => t.completeSegment g.segment.beats.length (if g.discarded then .error else r),
    State.modTxn_core_id fun _ => rfl, ?_⟩
  unfold State.writeResult
  dsimp only
  split
  · next b _ _ =>
    split
    · exact .inl rfl
    · next hl =>
      have hl : s.live b = true := by
        simp only [Bool.or_eq_true, Bool.not_eq_true', not_or, Bool.not_eq_false] at hl
        exact hl.2
      cases r
      · exact .inr ⟨b, hl, .inl rfl⟩
      · exact .inr ⟨b, hl, .inr rfl⟩
  · exact .inl rfl

theorem State.writeResult_later (s : State) (g : Granted) (r : BusStatus) : s.core.Later (s.writeResult g r).core := by
  obtain ⟨s1, h1, hc | ⟨b, -, hc | hc⟩⟩ := s.writeResult_cases g r <;> rw [hc, ← h1]
  · exact .refl _
  · exact (s1.producerOkay_steady _ _).later
  · exact s1.producerError_later _ _ _

theorem State.writeResult_sound (h : s.core.Sound) (g : Granted) (r : BusStatus) : (s.writeResult g r).core.Sound := by
  obtain ⟨s1, h1, hc | ⟨b, hl, hc | hc⟩⟩ := s.writeResult_cases g r <;> rw [← h1] at h <;> rw [hc]
  · exact h
  · refine State.producerOkay_sound h ?_ _
    rw [h1]
    exact ((State.live_iff b).mp hl).1
  · exact State.producerError_sound h _ _

@[simp] theorem State.holdResult_core (s : State) (p : PortId) (x : SegmentBeat) (b : Binding) (data : Word)
    (r : BusStatus) : (s.holdResult p x b data r).core = s.core := by
  have hanswer (v : Response) : (s.modTxn p fun t => t.answer x.beat v).core = s.core :=
    State.modTxn_core_id fun _ => rfl
  unfold State.holdResult
  cases r
  · exact hanswer _
  · dsimp only
    split <;> simp [hanswer]

@[simp] theorem State.readResult_core (s : State) (g : Granted) (x : SegmentBeat) (data : Word) (r : BusStatus) :
    (s.readResult g x data r).core = s.core := by
  have hanswer (v : Response) : (s.modTxn g.owner fun t => t.answer x.beat v).core = s.core :=
    State.modTxn_core_id fun _ => rfl
  unfold State.readResult
  dsimp only
  split
  · exact hanswer _
  · split
    · exact State.holdResult_core ..
    · exact hanswer _
    · exact hanswer _

@[simp] theorem State.endReadSegment_core (s : State) (g : Granted) : (s.endReadSegment g).core = s.core := by
  unfold State.endReadSegment
  split <;> simp

end Memory

/-! ## Commands and resets keep the core in form -/

section Commands

variable {s : State} {i : StreamId} {p : PortId}

/-! ### CLOSE -/

/-- R67: CLOSE DRAIN releases the held producer write, or leaves the core. -/
theorem State.releaseByDrain_cases (s : State) (i : StreamId) :
    (s.releaseByDrain i).core = s.core
    ∨ ((s.core.ring i).producerPhase = .held
      ∧ (s.releaseByDrain i).core
        = (s.core.modClaim (s.core.ring i).desc.producerPort Claim.release).modRing i (.withProducerPhase .flowing)) := by
  unfold State.releaseByDrain
  dsimp only
  split
  · next hheld => exact .inr ⟨hheld, by simp [Core.modRing_modClaim]⟩
  · exact .inl rfl

/-- R106: a stream that begins to drain: its state and, where it was HELD, its producer; then the drain test. -/
theorem State.beginDrain_eq (s : State) (i : StreamId) :
    ∃ s1 s2 : State, s1.core = s.core.modRing i .drain ∧ s2.core = (s1.releaseByDrain i).core
      ∧ s.beginDrain i = (s2.drainTest i).settle :=
  ⟨_, _, State.modStream_core rfl, State.paceDrop_core _ i .producer, rfl⟩

theorem State.beginDrain_later (hopen : (s.stream i).state = .opened) : s.core.Later (s.beginDrain i).core := by
  obtain ⟨s1, s2, h1, h2, hc⟩ := s.beginDrain_eq i
  have hs1 : s.core.Later s1.core :=
    h1 ▸ Core.later_modRing ⟨rfl, rfl, fun hclosed => absurd (hopen.symm.trans hclosed) (by decide)⟩
  have hs2 : s1.core.Later s2.core := by
    rw [h2]
    rcases s1.releaseByDrain_cases i with hc | ⟨-, hc⟩ <;> rw [hc]
    · exact .refl _
    · exact Core.later_modRing (c := s1.core.modClaim _ _) ⟨rfl, rfl, id⟩
  rw [hc]
  exact (hs1.trans hs2).trans ((s2.drainTest_later i).trans (State.settle_later _))

/-- R106: CLOSE DRAIN of an OPEN stream keeps the core in form. -/
theorem State.beginDrain_sound (h : s.core.Sound) (hopen : (s.stream i).state = .opened) :
    (s.beginDrain i).core.Sound := by
  obtain ⟨s1, s2, h1, h2, hc⟩ := s.beginDrain_eq i
  have hs1 : s1.core.Sound :=
    h1 ▸ h.modRing ⟨rfl, rfl, fun hclosed => absurd (hopen.symm.trans hclosed) (by decide)⟩ fun _ hr =>
      { hr with budget := fun hb => { hr.budget hb with } }
  have hs2 : s2.core.Sound := by
    rw [h2]
    rcases s1.releaseByDrain_cases i with hc | ⟨hheld, hc⟩ <;> rw [hc]
    · exact hs1
    · have hrel := hs1.release (s1.core.ring i).desc.producerPort
      refine hrel.modRing ⟨rfl, rfl, id⟩ fun hi hr => hr.withProducerPhase (hheld.trans_ne (by decide)) fun hp => ?_
      exact absurd hp (hrel.not_holdsProducer hi fun _ => Core.held_modClaim_release _ _)
  rw [hc]
  exact State.settle_sound (State.drainTest_sound hs2 i)

/-- R110: CLOSE ABORT ends transactions with error and closes the stream. -/
theorem State.abort_eq (s : State) (i : StreamId) :
    ∃ (f : PortId → Port → Port) (s2 : State), (∀ q, Claim.Within (f q (s.port q)).claim (s.port q).claim)
      ∧ s2.core = (s.mapPorts f).core.modRing i .close ∧ s.abort i = s2.settle := by
  refine ⟨fun q port => if port.onSession (s.binding i) then port.endWithError (s.beatsOnMemory q) else port, _,
    fun q => ?_, ?_, rfl⟩
  · dsimp only
    split
    · exact Port.endWithError_within _ _
    · exact Claim.within_refl _
  · rw [State.post_core, State.becomeClosed_core]
    rfl

theorem State.abort_later (s : State) (i : StreamId) : s.core.Later (s.abort i).core := by
  obtain ⟨f, s2, -, h2, hc⟩ := s.abort_eq i
  have hs2 : s.core.Later s2.core := h2 ▸ Core.Later.close (s.mapPorts f).core i
  rw [hc]
  exact hs2.trans (State.settle_later _)

theorem State.abort_sound (h : s.core.Sound) (i : StreamId) : (s.abort i).core.Sound := by
  obtain ⟨f, s2, hf, h2, hc⟩ := s.abort_eq i
  rw [hc]
  exact State.settle_sound (h2 ▸ (State.mapPorts_sound h hf).close i)

/-! ### Resets -/

/-- R38: a reset ends the transactions of the two paths with error. -/
theorem Port.atReset_within (port : Port) (onMemory : List SegmentBeat) :
    Claim.Within (port.atReset onMemory).claim port.claim := by
  unfold Port.atReset
  split
  · split
    · exact Port.endWithError_within _ _
    · exact Claim.within_refl _
  · exact Claim.within_refl _

/-- R20: the streams after a reset. -/
@[simp] theorem State.resetBlocks_stream (s : State) (i : StreamId) :
    s.resetBlocks.stream i = Stream.reset (s.stream i).session :=
  State.stream_mapStreams (s.mapPorts fun p port => port.atReset (s.beatsOnMemory p))
    (fun st => Stream.reset st.session) i

/-- R38: the ports after a reset. -/
@[simp] theorem State.resetBlocks_port (s : State) (p : PortId) :
    s.resetBlocks.port p = (s.port p).atReset (s.beatsOnMemory p) :=
  State.port_mapPorts s (fun p port => port.atReset (s.beatsOnMemory p)) p

theorem State.resetBlocks_sound (h : s.core.Sound) : s.resetBlocks.core.Sound := by
  refine h.of_closed (fun i => ?_) (fun i => ?_) fun p => ?_
  · rw [State.core_ring, State.resetBlocks_stream]
    rfl
  · rw [State.core_ring, State.resetBlocks_stream]
    rfl
  · rw [State.core_claim, State.resetBlocks_port]
    exact Port.atReset_within _ _

/-! ### OPEN and EXTEND -/

/-- R12: an OPEN that passes its checks finds the stream CLOSED, and its descriptor passes each check. -/
theorem State.openRefusal_eq_none {r : RawDescriptor} (h : s.openRefusal i r = none) :
    (s.stream i).state = .closed ∧ rangeCheck r = true ∧ spanCheck r = true ∧ conflictCheck r = true
      ∧ s.overlapsOther i r = false := by
  unfold State.openRefusal at h
  split_ifs at h with h1 h2 h3 h4 h5
  simp only [Bool.not_eq_true', Bool.not_eq_false] at *
  exact ⟨by simpa using h1, h2, h3, h4, by simpa using h5⟩

/-- R17: an OPEN gives the stream the ring of a new session. -/
theorem State.open_core (s : State) (i : StreamId) (d : Descriptor) :
    (s.modStream i fun st => Stream.opened d s.initial (st.session + 1)).core
      = s.core.modRing i fun r => Ring.opened d (r.session + 1) :=
  State.modStream_core rfl

@[simp] theorem Ring.occupancy_opened (d : Descriptor) (session : Nat) : (Ring.opened d session).occupancy = 0 := by
  simp [Ring.occupancy, Ring.opened]

/-- R2, R17: the ring of a stream just opened is in form. -/
theorem Ring.opened_sound {r : RawDescriptor} (h : DescriptorInRange r) (session : Nat) :
    (Ring.opened (storedDescriptor r) session).Sound False False := by
  obtain ⟨-, -, -, hdepth, -, -, -, -, -, -, -, -, -, ⟨hrestart, -⟩, -⟩ := h
  have hbudget := r.budget.isLt
  exact
    { depth := hdepth
      restart := hrestart
      fits := by
        rw [Ring.occupancy_opened]
        exact Nat.zero_le _
      delivered := Nat.zero_le _
      cursor := by
        show 0 < r.depth.toNat
        omega
      cursors := by
        rw [Ring.occupancy_opened]
        exact (Nat.zero_mod _).symm
      inFlightRun := rfl
      deliveryRun := rfl
      idle := fun _ => rfl
      heldSlot := by rintro x ⟨⟩
      budget := fun hb =>
        { consumed := le_rfl
          committed := Nat.zero_le _
          extension := by rintro n ⟨⟩
          limit := by
            show r.budget.toNat + 0 ≤ _
            omega
          placed := Nat.zero_le _
          spent := fun he => absurd he.symm hb }
      producerHold := False.elim
      consumerHold := False.elim }

/-- R100: an EXTEND that passes its checks finds a budgeted OPEN stream, not DONE and with no extension registered. -/
theorem Stream.extendRefusal_eq_none {st : Stream} {n : Nat} (h : st.extendRefusal n = none) :
    st.producer.phase ≠ .done ∧ st.extension = none ∧ 1 ≤ n ∧ st.budgetNow + n ≤ 0xFFFFFFFF := by
  unfold Stream.extendRefusal at h
  split_ifs at h with h1 h2 h3 h4
  exact ⟨h2, by simpa using h3, by omega, by omega⟩

end Commands

end Sys2Proof.Machine

namespace Sys2Proof.Machine

open Sys2Proof Sys2Proof.Safety

/-! ## What every step keeps -/

/-- A predicate on the core that each operation of a command keeps. -/
structure Kept (P : Core → Prop) : Prop where
  settle : ∀ s : State, P s.core → P s.settle.core
  request : ∀ (s : State) p dir addr beats, P s.core → P (s.acceptRequest p dir addr beats).core
  write : ∀ (s : State) p t data enables, P s.core → (s.port p).txn = some t → t.hold = none →
    P (s.acceptWrite p t data enables).core
  read : ∀ (s : State) p t b, P s.core → (s.port p).txn = some t → t.cls = some (.consumer b) →
    P (s.handRead p t b).core
  expiry : ∀ (s : State) p t, P s.core → (s.port p).txn = some t → t.hold ≠ none → P (s.takeExpiry p t).core
  result : ∀ (s : State) g r, P s.core → P (s.writeResult g r).core
  openStream : ∀ (s : State) i r, P s.core → s.openRefusal i r = none →
    P (s.core.modRing i fun ring => Ring.opened (storedDescriptor r) (ring.session + 1))
  drain : ∀ (s : State) i, P s.core → (s.stream i).state = .opened → P (s.beginDrain i).core
  abort : ∀ (s : State) i, P s.core → P (s.abort i).core
  close : ∀ (s : State) i, P s.core → P (s.core.modRing i .close)
  extend : ∀ (s : State) i n, P s.core → (s.stream i).extendRefusal n = none → P (s.core.modRing i (.extend n))
  reset : ∀ s : State, P s.core → P s.resetBlocks.core

namespace Kept

variable {P : Core → Prop} {s : State}

/-! ### The management commands -/

theorem openCommand (K : Kept P) (h : P s.core) (target : Byte) (r : RawDescriptor) :
    P (State.openCommand target r s).1.core := by
  unfold State.openCommand
  split
  · exact h
  · split
    · exact h
    · next i _ _ hc =>
      rw [State.open_core]
      exact K.openStream s i r h hc

theorem closeDrainCommand (K : Kept P) (h : P s.core) (target : Byte) :
    P (State.closeDrainCommand target s).1.core := by
  unfold State.closeDrainCommand
  split
  · exact h
  · next i _ =>
    cases hstate : (s.stream i).state <;> dsimp only
    · exact h
    · exact K.drain s i h hstate
    · exact h
    · rw [State.becomeClosed_core]
      exact K.close s i h

theorem closeAbortCommand (K : Kept P) (h : P s.core) (target : Byte) :
    P (State.closeAbortCommand target s).1.core := by
  unfold State.closeAbortCommand
  split
  · exact h
  · next i _ =>
    cases (s.stream i).state <;> dsimp only
    · exact h
    · exact K.abort s i h
    · exact K.abort s i h
    · rw [State.becomeClosed_core]
      exact K.close s i h

theorem extendCommand (K : Kept P) (h : P s.core) (target : Byte) (frames : BitVec 24) :
    P (State.extendCommand target frames s).1.core := by
  unfold State.extendCommand
  split
  · exact h
  · next i _ =>
    split
    · exact h
    · next hc =>
      rw [State.modStream_core (g := .extend frames.toNat) rfl]
      exact K.extend s i frames.toNat h hc

theorem acknowledgeProducerCommand_core (s : State) (target : Byte) :
    (State.acknowledgeProducerCommand target s).1.core = s.core := by
  unfold State.acknowledgeProducerCommand
  split
  · rfl
  · split_ifs
    · rfl
    · exact State.modStream_core_id rfl
    · rfl

theorem acknowledgeConsumerCommand_core (s : State) (target : Byte) :
    (State.acknowledgeConsumerCommand target s).1.core = s.core := by
  unfold State.acknowledgeConsumerCommand
  split
  · rfl
  · split_ifs
    · rfl
    · exact State.modStream_core_id rfl
    · rfl

theorem statusCommand_core (s : State) (target : Byte) : (State.statusCommand target s).1.core = s.core := by
  unfold State.statusCommand
  split <;> rfl

theorem takeNoticeCommand_core (s : State) : s.takeNoticeCommand.1.core = s.core := by
  unfold State.takeNoticeCommand
  split <;> rfl

theorem bindPaceCommand_core (s : State) (line stream side packet : Byte) :
    (State.bindPaceCommand line stream side packet s).1.core = s.core := by
  unfold State.bindPaceCommand
  split
  · split
    · rfl
    · split <;> rfl
  · rfl

theorem unbindPaceCommand_core (s : State) (line : Byte) : (State.unbindPaceCommand line s).1.core = s.core := by
  unfold State.unbindPaceCommand
  split
  · rfl
  · split <;> rfl

theorem setIntegrityCommand_core (s : State) (polynomial initial : Word) :
    (State.setIntegrityCommand polynomial initial s).1.core = s.core := by
  unfold State.setIntegrityCommand
  split_ifs <;> rfl

theorem setTimebaseCommand_core (s : State) (divider : Byte) :
    (State.setTimebaseCommand divider s).1.core = s.core := by
  unfold State.setTimebaseCommand
  split_ifs <;> rfl

/-- R157: the command of a complete frame. -/
theorem applyFrame (K : Kept P) (h : P s.core) (frame : List Byte) : P (State.applyFrame frame s).1.core := by
  unfold State.applyFrame
  split
  · exact K.openCommand h _ _
  · exact K.closeDrainCommand h _
  · exact K.closeAbortCommand h _
  · exact K.extendCommand h _ _
  · exact (acknowledgeProducerCommand_core s _).symm ▸ h
  · exact (acknowledgeConsumerCommand_core s _).symm ▸ h
  · exact (statusCommand_core s _).symm ▸ h
  · exact (takeNoticeCommand_core s).symm ▸ h
  · exact (bindPaceCommand_core s _ _ _ _).symm ▸ h
  · exact (unbindPaceCommand_core s _).symm ▸ h
  · exact (setIntegrityCommand_core s _ _).symm ▸ h
  · exact h
  · exact (setTimebaseCommand_core s _).symm ▸ h
  · exact h
  · exact h

/-! ### The management port -/

/-- R152: a complete frame is its command. -/
theorem completeFrame {command : State → State × Answer} (hcommand : ∀ s : State, P s.core → P (command s).1.core)
    (h : P s.core) (frame : List Byte) : P (s.completeFrame frame command).core :=
  hcommand (s.modSpi _) h

theorem frameRow {command : State → State × Answer} (hcommand : ∀ s : State, P s.core → P (command s).1.core)
    (h : P s.core) (frame : List Byte) : P (s.frameRow frame command).core := by
  unfold State.frameRow
  split
  · exact completeFrame hcommand h frame
  · exact h

/-- R151: an edge of SCK is a bit, a byte or a complete frame. -/
theorem receiveByte (K : Kept P) (h : P s.core) (b : Byte) : P (s.receiveByte b).core := by
  unfold State.receiveByte
  dsimp only
  split
  · exact h
  · exact h
  · split
    · exact completeFrame (fun s' h' => K.applyFrame h' _) h _
    · exact h
  · exact h
  · exact h

theorem sckEdge (K : Kept P) (h : P s.core) (edge : SckEdge) {t : State} (ht : execSckEdge edge s = .next t) :
    P t.core := by
  obtain rfl := Host.Outcome.next.inj ht
  split
  · cases edge
    · dsimp only [State.sckRising]
      split
      · exact K.receiveByte h _
      · exact h
    · exact h
  · exact h

/-! ### Ticks and resets -/

theorem takeTick_core (s : State) : s.takeTick.core = s.core :=
  State.mapPorts_core_id (s := s) (f := fun _ port => port.tick) fun p => by
    simp only [Port.tick, Port.claim, Option.map_map]
    refine Option.map_congr fun t _ => ?_
    simp [Transaction.claim]

theorem refclk_core (s : State) : s.refclk.core = s.core := by
  unfold State.refclk
  split_ifs
  · rfl
  · exact takeTick_core s
  · rfl

/-! ### The events -/

theorem softReset (K : Kept P) (h : P s.core) : P s.softReset.core :=
  K.settle (s.resetBlocks.postStarted 2#32) (K.reset s h)

theorem execRequestTaken (K : Kept P) (h : P s.core) (p : PortId) (dir : Dir) (addr : Word) (beats : Nat) {t : State}
    (ht : execRequestTaken p dir addr beats s = .next t) : P t.core := by
  obtain rfl := Host.Outcome.next.inj ht
  split
  · exact K.settle _ (K.request s p dir addr beats h)
  · exact h

theorem execWriteBeat (K : Kept P) (h : P s.core) (p : PortId) (data : Word) (enables : BitVec 4) {t : State}
    (ht : execWriteBeat p data enables s = .next t) : P t.core := by
  obtain rfl := Host.Outcome.next.inj ht
  split
  · next x hx =>
    split
    · next hacc =>
      simp only [Transaction.acceptsWrite, Bool.and_eq_true, Option.isNone_iff_eq_none] at hacc
      exact K.settle _ (K.write s p x data enables h hx hacc.1.2)
    · exact h
  · exact h

theorem execReadBeat (K : Kept P) (h : P s.core) (p : PortId) {t : State} (ht : execReadBeat p s = .next t) :
    P t.core := by
  obtain rfl := Host.Outcome.next.inj ht
  split
  · next x hx =>
    split
    · next b hb =>
      split
      · exact K.settle _ (K.read s p x b h hx hb)
      · exact h
    · exact h
  · exact h

theorem execHoldTimerExpiry (K : Kept P) (h : P s.core) (p : PortId) {t : State}
    (ht : execHoldTimerExpiry p s = .next t) : P t.core := by
  obtain rfl := Host.Outcome.next.inj ht
  split
  · next x hx =>
    split
    · next hold hhold =>
      split
      · exact K.settle _ (K.expiry s p x h hx (by simp [hhold]))
      · exact h
    · exact h
  · exact h

theorem execMemoryWriteCompletion (K : Kept P) (h : P s.core) (r : BusStatus) {t : State}
    (ht : execMemoryWriteCompletion r s = .next t) : P t.core := by
  obtain rfl := Host.Outcome.next.inj ht
  split
  · next g _ =>
    split
    · rw [State.freeMemory_core]
      exact K.settle _ (K.result s g r h)
    · exact h
  · exact h

theorem execMemoryReadData (K : Kept P) (h : P s.core) (data : Word) (r : BusStatus) {t : State}
    (ht : execMemoryReadData data r s = .next t) : P t.core := by
  obtain rfl := Host.Outcome.next.inj ht
  split
  · next g _ =>
    split
    · split
      · next x _ _ =>
        dsimp only
        rw [State.endReadSegment_core]
        refine K.settle _ ?_
        rw [State.readResult_core, State.modTxn_core_id (by intro; rfl)]
        exact h
      · exact h
    · exact h
  · exact h

/-! ### Power-on reset and the select line -/

theorem execPowerOnReset (K : Kept P) (h : P s.core) {t : State} (ht : execPowerOnReset s = .next t) : P t.core := by
  obtain rfl := Host.Outcome.next.inj ht
  split
  · exact K.settle _ (K.reset s h)
  · exact h

theorem powerOnResetEnd_core {t : State} (ht : execPowerOnResetEnd s = .next t) : t.core = s.core := by
  obtain rfl := Host.Outcome.next.inj ht
  split
  · rfl
  · rfl

theorem csnFall_core {t : State} (ht : execCsnFall s = .next t) : t.core = s.core := by
  obtain rfl := Host.Outcome.next.inj ht
  split
  · split
    · rfl
    · rfl
  · rfl

theorem execCsnRise (K : Kept P) (h : P s.core) {t : State} (ht : execCsnRise s = .next t) : P t.core := by
  obtain rfl := Host.Outcome.next.inj ht
  have hend : P ({ s with csHigh := true }.modSpi Management.endTransaction).core := h
  split
  · exact h
  · split
    · dsimp only
      split
      · exact K.softReset hend
      · exact hend
    · exact h

theorem unknown_core {code : Byte} {t : State} (ht : execUnknown code s = .next t) : t.core = s.core := by
  obtain rfl := Host.Outcome.next.inj ht
  split
  · rfl
  · rfl

theorem microsecondTick_core {t : State} (ht : execMicrosecondTick s = .next t) : t.core = s.core := by
  obtain rfl := Host.Outcome.next.inj ht
  split
  · exact takeTick_core s
  · rfl

/-! ### Every command -/

/-- A command row keeps what its command keeps. -/
theorem row {command : State → State × Answer} {frame : List Byte}
    (hcommand : ∀ s : State, P s.core → P (command s).1.core) (h : P s.core) {t : State}
    (ht : Host.Outcome.next (φ := Fault) (ρ := Refusal) (s.frameRow frame command) = .next t) : P t.core :=
  Host.Outcome.next.inj ht ▸ frameRow hcommand h frame

/-- A command row keeps the core its command keeps. -/
theorem row_of_core {command : State → State × Answer} {frame : List Byte}
    (hcommand : ∀ s : State, (command s).1.core = s.core) (h : P s.core) {t : State}
    (ht : Host.Outcome.next (φ := Fault) (ρ := Refusal) (s.frameRow frame command) = .next t) : P t.core :=
  row (fun s h => (hcommand s).symm ▸ h) h ht

/-- Each command keeps the predicate. -/
theorem exec (K : Kept P) (h : P s.core) (c : Instr) {t : State} (ht : exec c s = .next t) : P t.core := by
  cases c with
  | powerOnReset => exact K.execPowerOnReset h ht
  | powerOnResetEnd => exact (powerOnResetEnd_core ht).symm ▸ h
  | csnFall => exact (csnFall_core ht).symm ▸ h
  | csnRise => exact K.execCsnRise h ht
  | openStream target r => exact row (fun _ h' => K.openCommand h' target r) h ht
  | closeDrain target => exact row (fun _ h' => K.closeDrainCommand h' target) h ht
  | closeAbort target => exact row (fun _ h' => K.closeAbortCommand h' target) h ht
  | extend target frames => exact row (fun _ h' => K.extendCommand h' target frames) h ht
  | acknowledgeProducer target => exact row_of_core (acknowledgeProducerCommand_core · target) h ht
  | acknowledgeConsumer target => exact row_of_core (acknowledgeConsumerCommand_core · target) h ht
  | status target => exact row_of_core (statusCommand_core · target) h ht
  | takeNotice _ => exact row_of_core takeNoticeCommand_core h ht
  | bindPace line stream side packet => exact row_of_core (bindPaceCommand_core · line stream side packet) h ht
  | unbindPace line => exact row_of_core (unbindPaceCommand_core · line) h ht
  | setIntegrity _ polynomial initial => exact row_of_core (setIntegrityCommand_core · polynomial initial) h ht
  | setAlertMask _ _ => exact row_of_core (fun _ => rfl) h ht
  | setTimebase _ divider => exact row_of_core (setTimebaseCommand_core · divider) h ht
  | reset _ => exact row_of_core (fun _ => rfl) h ht
  | unknown code => exact (unknown_core ht).symm ▸ h
  | requestTaken p dir addr beats => exact K.execRequestTaken h p dir addr beats ht
  | writeBeat p data enables => exact K.execWriteBeat h p data enables ht
  | readBeat p => exact K.execReadBeat h p ht
  | microsecondTick => exact (microsecondTick_core ht).symm ▸ h
  | holdTimerExpiry p => exact K.execHoldTimerExpiry h p ht
  | memoryWriteCompletion r => exact K.execMemoryWriteCompletion h r ht
  | memoryReadData data r => exact K.execMemoryReadData h data r ht
  | sckEdge edge => exact K.sckEdge h edge ht

/-- Every step keeps the predicate. -/
theorem step (K : Kept P) (h : P s.core) {t : State} (ht : step s = .next t) : P t.core := by
  unfold Machine.step at ht
  split at ht
  · obtain rfl := Host.Outcome.next.inj ht
    rwa [refclk_core]
  · next c rest _ => exact K.exec (s := { s with pending := rest }) h c ht

end Kept

/-! ### The form of the core -/

/-- Every command keeps the core in form. -/
theorem Core.Sound.kept : Kept Core.Sound where
  settle _ h := State.settle_sound h
  request _ p dir addr beats h := State.acceptRequest_sound h p dir addr beats
  write _ _ _ data enables h ht hhold := State.acceptWrite_sound h ht hhold data enables
  read _ _ t _ h ht hcls := State.handRead_sound h (fun k hk => by
    obtain rfl := Option.some.inj ((congrArg (Option.map Transaction.claim) ht).symm.trans hk)
    exact hcls) t
  expiry _ _ _ h ht hhold := State.takeExpiry_sound h ht hhold
  result _ g r h := State.writeResult_sound h g r
  openStream _ _ r h hc :=
    h.newSession rfl (Ring.opened_sound ((rangeCheck_iff r).mp (State.openRefusal_eq_none hc).2.1) _)
  drain _ _ h hopen := State.beginDrain_sound h hopen
  abort _ i h := State.abort_sound h i
  close _ i h := h.close i
  extend _ _ _ h hc := by
    obtain ⟨hdone, hnone, hpos, hmax⟩ := Stream.extendRefusal_eq_none hc
    exact h.modRing ⟨rfl, rfl, id⟩ fun _ hr => hr.extend hdone hnone hpos hmax
  reset _ h := State.resetBlocks_sound h

/-- Settles O57: the forms of the rings and of the budgets are the form of the core, which every command keeps. -/
theorem everyStepKeepsTheRingsInForm : Obligations.EveryStepKeepsTheRingsInForm := fun _ _ hr hb ht =>
  (State.core_sound_iff.mp (Core.Sound.kept.step (State.core_sound_iff.mpr ⟨hr, hb⟩) ht)).1

/-- Settles O58: the forms of the rings and of the budgets are the form of the core, which every command keeps. -/
theorem everyStepKeepsTheBudgets : Obligations.EveryStepKeepsTheBudgets := fun _ _ hr hb ht =>
  (State.core_sound_iff.mp (Core.Sound.kept.step (State.core_sound_iff.mpr ⟨hr, hb⟩) ht)).2

/-! ### The form of the Stream Table -/

/-- The descriptors of the streams that are not CLOSED are in form, and their bodies are apart (TableInForm). -/
def Core.TableSound (c : Core) : Prop :=
  (∀ i, (c.ring i).state ≠ .closed → DescriptorInForm (c.ring i).desc)
  ∧ ∀ i j, i ≠ j → (c.ring i).state ≠ .closed → (c.ring j).state ≠ .closed →
      (c.ring i).desc.bodyLast.toNat < (c.ring j).desc.base.toNat
      ∨ (c.ring j).desc.bodyLast.toNat < (c.ring i).desc.base.toNat

theorem State.core_tableSound_iff {s : State} : s.core.TableSound ↔ TableInForm s := Iff.rfl

/-- A later core has no more bodies. -/
theorem Core.TableSound.later {c c' : Core} (h : c.TableSound) (hl : c.Later c') : c'.TableSound := by
  have hopen (i : StreamId) (hi : (c'.ring i).state ≠ .closed) : (c.ring i).state ≠ .closed :=
    fun hc => hi ((hl i).closed hc)
  refine ⟨fun i hi => ?_, fun i j hij hi hj => ?_⟩
  · rw [(hl i).desc]
    exact h.1 i (hopen i hi)
  · rw [(hl i).desc, (hl j).desc]
    exact h.2 i j hij (hopen i hi) (hopen j hj)

/-- R13: the last byte of a body in range is a 32-bit address. -/
theorem storedDescriptor_bodyLast {r : RawDescriptor} (h : DescriptorInRange r) :
    (storedDescriptor r).bodyLast.toNat = rawBodyLast r := by
  obtain ⟨-, -, -, -, -, -, -, -, -, -, -, -, -, -, -, hlast⟩ := h
  have hlast : rawBodyLast r < 2 ^ 32 := by
    simp only [rawBodyLast, rawFrameBytes]
    omega
  exact (BitVec.toNat_ofNat _ _).trans (Nat.mod_eq_of_lt hlast)

/-- R2: two port numbers in range are equal where the ports they name are. -/
theorem eq_of_portOfByte_eq {a b : Byte} (ha : a.toNat ≤ 3) (hb : b.toNat ≤ 3) (h : portOfByte a = portOfByte b) :
    a.toNat = b.toNat := by
  have h : a.toNat % 4 = b.toNat % 4 := congrArg Fin.val h
  omega

/-- R13: the limit of a policy that uses one is not 0. -/
theorem limit_pos {policy limit : Byte} (hpolicy : policy = 0#8 ∨ policy = 1#8) (h : policy = 1#8 → limit ≠ 0#8)
    (hne : policy.toNat ≠ 0) : 1 ≤ limit.toNat := by
  have hlimit : limit ≠ 0#8 := h (hpolicy.resolve_left fun h0 => hne (by simp [h0]))
  exact Nat.one_le_iff_ne_zero.mpr (mt (bitVec_eq_ofNat_iff limit (by decide)).mpr hlimit)

/-- R2, R3, R13 to R15: the descriptor an accepted OPEN stores is in form. -/
theorem storedDescriptor_inForm {r : RawDescriptor} (hrange : DescriptorInRange r) (hspan : SpanFits r)
    (hports : PortsFit r) : DescriptorInForm (storedDescriptor r) := by
  have hlast := storedDescriptor_bodyLast hrange
  have hbody := rawFrameBytes_pos hrange
  obtain ⟨hbase, hchannels, hsample, hdepth, hproducer, hconsumer, -, hfull, hempty, -, -, hstall, hwait, hrestart, -,
    hframe, hmax, -⟩ := hrange
  have hstallMax : r.stallLimit.toNat ≤ 255 := Nat.le_of_lt_succ r.stallLimit.isLt
  have hwaitMax : r.waitLimit.toNat ≤ 255 := Nat.le_of_lt_succ r.waitLimit.isLt
  refine ⟨hchannels, ?sample, hdepth, rfl, hframe, hmax, hbase, ?last, hrestart, ?stall, ?stallMax, ?wait, ?waitMax,
    ?span, ?budget, ?ports⟩
  case sample =>
    show 2 ≤ r.sampleBytes.toNat ∧ r.sampleBytes.toNat ≤ 4
    omega
  case last =>
    rw [hlast]
    show r.base.toNat + r.depth.toNat * rawFrameBytes r = r.base.toNat + r.depth.toNat * rawFrameBytes r - 1 + 1
    omega
  case stall =>
    by_cases h : r.fullPolicy.toNat = 0
    · simp [storedDescriptor, h]
    · simpa [storedDescriptor, h] using limit_pos hfull hstall h
  case stallMax =>
    by_cases h : r.fullPolicy.toNat = 0 <;> simp [storedDescriptor, h, hstallMax]
  case wait =>
    by_cases h : r.emptyPolicy.toNat = 0
    · simp [storedDescriptor, h]
    · simpa [storedDescriptor, h] using limit_pos hempty hwait h
  case waitMax =>
    by_cases h : r.emptyPolicy.toNat = 0 <;> simp [storedDescriptor, h, hwaitMax]
  case span =>
    exact hspan.imp_left (bitVec_eq_ofNat_iff r.spanLength (by decide)).mp
  case budget =>
    exact Nat.le_of_lt_succ r.budget.isLt
  case ports =>
    intro h
    have hsame : r.producerPort = r.consumerPort := BitVec.eq_of_toNat_eq (eq_of_portOfByte_eq hproducer hconsumer h)
    obtain ⟨hnostall, hnowait⟩ := hports hsame
    simp [storedDescriptor, hfull.resolve_right hnostall, hempty.resolve_right hnowait]

/-- R16: a stream whose body meets no other may be opened. -/
theorem Core.TableSound.openStream {s : State} {i : StreamId} {r : RawDescriptor} (h : s.core.TableSound)
    (hc : s.openRefusal i r = none) :
    (s.core.modRing i fun ring => Ring.opened (storedDescriptor r) (ring.session + 1)).TableSound := by
  obtain ⟨-, hrange, hspan, hports, hfree⟩ := State.openRefusal_eq_none hc
  have hrange := (rangeCheck_iff r).mp hrange
  have hform := storedDescriptor_inForm hrange ((spanCheck_iff r).mp hspan) ((conflictCheck_iff r).mp hports)
  have hfree := (State.overlapsOther_eq_false_iff s i r).mp hfree
  rw [← storedDescriptor_bodyLast hrange] at hfree
  have hself := Core.modRing_ring_self s.core i fun ring => Ring.opened (storedDescriptor r) (ring.session + 1)
  have hother (j : StreamId) (hj : j ≠ i) :=
    Core.modRing_ring_ne s.core (fun ring => Ring.opened (storedDescriptor r) (ring.session + 1)) hj
  refine ⟨fun j hj => ?form, fun j k hjk hj hk => ?apart⟩
  case form =>
    by_cases hji : j = i
    · subst hji
      rw [hself]
      exact hform
    · rw [hother j hji] at hj ⊢
      exact h.1 j hj
  case apart =>
    by_cases hji : j = i
    · subst hji
      rw [hother k hjk.symm] at hk ⊢
      rw [hself]
      exact hfree k hjk.symm hk
    · rw [hother j hji] at hj ⊢
      by_cases hki : k = i
      · subst hki
        rw [hself]
        exact (hfree j hji hj).symm
      · rw [hother k hki] at hk ⊢
        exact h.2 j k hjk hj hk

/-- Every command keeps the descriptors in form and the bodies apart. -/
theorem Core.TableSound.kept : Kept Core.TableSound where
  settle s h := h.later s.settle_later
  request s p dir addr beats h := h.later (s.acceptRequest_later p dir addr beats)
  write _ _ _ data enables h ht hhold := h.later (State.acceptWrite_later ht hhold data enables)
  read s p t b h _ _ := h.later (s.handRead_later p t b)
  expiry s p t h _ _ := h.later (s.takeExpiry_later p t)
  result s g r h := h.later (s.writeResult_later g r)
  openStream _ _ _ h hc := h.openStream hc
  drain _ _ h hopen := h.later (State.beginDrain_later hopen)
  abort s i h := h.later (s.abort_later i)
  close s i h := h.later (.close s.core i)
  extend _ _ _ h _ := h.later (Core.later_modRing ⟨rfl, rfl, id⟩)
  reset s _ := by
    have hclosed (i : StreamId) : (s.resetBlocks.core.ring i).state = .closed := by
      rw [State.core_ring, State.resetBlocks_stream]
      rfl
    exact ⟨fun i hi => absurd (hclosed i) hi, fun i _ _ hi => absurd (hclosed i) hi⟩

/-- Settles O54: a command other than OPEN adds no body, and OPEN adds one in form that meets no other. -/
theorem everyStepKeepsTheBodiesApart : Obligations.EveryStepKeepsTheBodiesApart := fun _ _ h ht =>
  State.core_tableSound_iff.mp (Core.TableSound.kept.step (State.core_tableSound_iff.mpr h) ht)

end Sys2Proof.Machine

namespace Sys2Proof.Machine

open Sys2Proof Sys2Proof.Safety

/-! ## Fields of a byte layout (R156, section 11.5) -/

section Fields

@[simp] theorem length_beBytes (n v : Nat) : (beBytes n v).length = n := by
  induction n with
  | zero => rfl
  | succ n ih => simp [beBytes, ih]

/-- The byte at the front of a layout counts 256 ^ (the number of bytes after it). -/
theorem beNat_cons (b : Byte) (bs : List Byte) : beNat (b :: bs) = b.toNat * 256 ^ bs.length + beNat bs := by
  have hfrom (bs : List Byte) : ∀ acc : Nat,
      bs.foldl (fun acc b => acc * 256 + b.toNat) acc = acc * 256 ^ bs.length + beNat bs := by
    induction bs with
    | nil => simp [beNat]
    | cons b bs ih =>
      intro acc
      simp only [beNat, List.foldl_cons, List.length_cons, ih (acc * 256 + b.toNat), ih (0 * 256 + b.toNat)]
      ring
  simpa [beNat] using hfrom bs b.toNat

/-- The bytes of a number give its value back, as far as they hold it. -/
theorem beNat_beBytes (n v : Nat) : beNat (beBytes n v) = v % 256 ^ n := by
  induction n with
  | zero => simp [beBytes, beNat, Nat.mod_one]
  | succ n ih =>
    have hpow : 2 ^ (8 * n) = 256 ^ n := pow_mul 2 8 n
    rw [beBytes, beNat_cons, length_beBytes, ih, BitVec.toNat_ofNat, Nat.shiftRight_eq_div_pow, hpow,
      pow_succ 256 n, Nat.mod_mul]
    ring

/-- The number at the front of a layout. -/
theorem fieldAt_beBytes_append (n v : Nat) (bytes : List Byte) : fieldAt (beBytes n v ++ bytes) 0 n = v % 256 ^ n := by
  rw [fieldAt, List.drop_zero, List.take_left' (length_beBytes n v), beNat_beBytes]

/-- The byte at the front of a layout. -/
theorem fieldAt_cons_zero (b : Byte) (bytes : List Byte) : fieldAt (b :: bytes) 0 1 = b.toNat := by
  simp [fieldAt, beNat]

/-- A field after the first byte of a layout. -/
theorem fieldAt_cons_succ (b : Byte) (bytes : List Byte) (offset len : Nat) :
    fieldAt (b :: bytes) (offset + 1) len = fieldAt bytes offset len := rfl

/-- A field after the first number of a layout. -/
theorem fieldAt_append_of_le {front : List Byte} {offset : Nat} (h : front.length ≤ offset) (bytes : List Byte)
    (len : Nat) : fieldAt (front ++ bytes) offset len = fieldAt bytes (offset - front.length) len := by
  rw [fieldAt, fieldAt, List.drop_append, List.drop_eq_nil_of_le h, List.nil_append]

end Fields

/-! ## STATUS (R18, R164) -/

section Status

@[simp] theorem length_descriptorBytes (d : RawDescriptor) : d.toBytes.length = 28 := by
  simp [RawDescriptor.toBytes]

/-- R164: the code of a stream state. -/
theorem StreamState.code_toNat (x : StreamState) :
    x.code.toNat = match x with | .closed => 0 | .opened => 1 | .draining => 2 | .ended => 3 := by
  cases x <;> rfl

/-- R164: the code of a verdict. -/
theorem Verdict.code_toNat (x : Verdict) :
    x.code.toNat = match x with | .none => 0 | .real => 1 | .fill => 2 | .lostFill => 3 := by
  cases x <;> rfl

theorem ProducerPhase.code_le (x : ProducerPhase) : x.code ≤ 3 := by cases x <;> decide

theorem ConsumerPhase.code_le (x : ConsumerPhase) : x.code ≤ 3 := by cases x <;> decide

theorem Placement.code_le (x : Placement) : x.code ≤ 1 := by cases x <;> decide

/-- R164: the flags are the bits of byte 45. -/
theorem Stream.flagByte_toNat (st : Stream) :
    st.flagByte.toNat = st.extension.isSome.toNat + 2 * st.consumer.heldSlot.isSome.toNat
      + 4 * (decide (st.producer.inFlight ≠ [])).toNat + 8 * st.overrunAcked.toNat + 16 * st.underrunAcked.toNat := by
  have hflight : (!st.producer.inFlight.isEmpty) = decide (st.producer.inFlight ≠ []) := by
    cases st.producer.inFlight <;> rfl
  rw [flagByte, hflight, BitVec.toNat_ofNat]
  have := st.extension.isSome.toNat_le
  have := st.consumer.heldSlot.isSome.toNat_le
  have := (decide (st.producer.inFlight ≠ [])).toNat_le
  have := st.overrunAcked.toNat_le
  have := st.underrunAcked.toNat_le
  omega

/-- R164: the phases and placements are the fields of byte 46. -/
theorem Stream.phaseByte_toNat (st : Stream) :
    st.phaseByte.toNat = (match st.producer.phase with | .flowing => 0 | .held => 1 | .overrun => 2 | .done => 3)
      + (if st.producer.placement = .lost then 4 else 0)
      + (match st.consumer.phase with | .flowing => 0 | .waiting => 16 | .underrun => 32 | .done => 48)
      + (if st.consumer.placement = .lost then 64 else 0) := by
  have hplacement (x : Placement) (n : Nat) : n * x.code = if x = .lost then n else 0 := by
    cases x <;> simp [Placement.code]
  have hproducer : st.producer.phase.code
      = match st.producer.phase with | .flowing => 0 | .held => 1 | .overrun => 2 | .done => 3 := by
    cases st.producer.phase <;> rfl
  have hconsumer : 16 * st.consumer.phase.code
      = match st.consumer.phase with | .flowing => 0 | .waiting => 16 | .underrun => 32 | .done => 48 := by
    cases st.consumer.phase <;> rfl
  have hsum : st.producer.phase.code + 4 * st.producer.placement.code + 16 * st.consumer.phase.code
      + 64 * st.consumer.placement.code < 2 ^ 8 := by
    have := st.producer.phase.code_le
    have := st.producer.placement.code_le
    have := st.consumer.phase.code_le
    have := st.consumer.placement.code_le
    omega
  rw [phaseByte, BitVec.toNat_ofNat, Nat.mod_eq_of_lt hsum, hproducer, hconsumer, hplacement, hplacement]

/-- R18: the number of span records, in one byte. -/
theorem Stream.spanQueueCount_mod (st : Stream) :
    st.spanQueueCount % 256 = match st.span with | none => 0 | some sp => sp.queue.length % 256 := by
  unfold spanQueueCount
  cases st.span <;> rfl

theorem Stream.length_statusBytes (st : Stream) : st.statusBytes.length = 77 := by
  simp [statusBytes, Counters.toBytes]

/-- R164: the descriptor stands at bytes 1 to 28 of the record. -/
theorem Stream.statusBytes_descriptor (st : Stream) : (st.statusBytes.drop 1).take 28 = st.desc.toRaw.toBytes := by
  simp only [statusBytes, List.append_assoc, List.cons_append, List.nil_append, List.drop_succ_cons, List.drop_zero]
  exact List.take_left' (length_descriptorBytes _)

/-- R18: the row STATUS, where the port is receiving its frame, completes the frame. -/
theorem exec_status {s : State} {target : Byte} (h : Receiving s (.status target)) :
    exec (.status target) s = .next (s.completeFrame (frameOf (.status target)) (State.statusCommand target)) :=
  congrArg _ (State.frameRow_of_receiving h)

/-- R18: STATUS of a stream answers its record. -/
theorem exec_status_of_stream {s : State} {target : Byte} {i : StreamId} (ht : target.toNat = i.val)
    (h : Receiving s (.status target)) :
    exec (.status target) s = .next (answered s (.status target) 0x01#8 (s.stream i).statusBytes) := by
  rw [exec_status h]
  refine congrArg _ (State.completeFrame_of_unchanged (a := ⟨.ok, (s.stream i).statusBytes⟩) fun f => ?_)
  simp [State.statusCommand, streamTarget_of_eq ht]

/-- R18: STATUS of a target above 15 answers RANGE. -/
theorem exec_status_no_target {s : State} {target : Byte} (ht : 16 ≤ target.toNat) (h : Receiving s (.status target)) :
    exec (.status target) s = .next (answered s (.status target) 0x03#8 []) := by
  rw [exec_status h]
  refine congrArg _ (State.completeFrame_of_unchanged (a := Answer.plain .range) fun f => ?_)
  simp [State.statusCommand, streamTarget_of_ge ht]

/-- Settles O13: the record is a sequence of numbers, and each field is the number that stands after the lengths of those
before it. -/
theorem statusReturnsTheRecordFieldByField : Obligations.StatusReturnsTheRecordFieldByField := by
  refine ⟨fun s i target ht h => ⟨exec_status_of_stream ht h, (s.stream i).length_statusBytes⟩,
    fun s target ht h => exec_status_no_target ht h, fun st => ?_⟩
  have hword (x : Word) : x.toNat % 256 ^ 4 = x.toNat := Nat.mod_eq_of_lt x.isLt
  have hhalf (x : BitVec 16) : x.toNat % 256 ^ 2 = x.toNat := Nat.mod_eq_of_lt x.isLt
  rw [st.statusBytes_descriptor]
  simp only [Stream.statusBytes, Counters.toBytes, List.append_assoc, List.cons_append, List.nil_append,
    fieldAt_cons_zero, fieldAt_cons_succ, fieldAt_beBytes_append, fieldAt_append_of_le, length_beBytes,
    length_descriptorBytes, Nat.reduceLeDiff, Nat.reduceSub]
  exact ⟨st.state.code_toNat, trivial, BitVec.toNat_ofNat _ _, hword _, hword _, rfl, rfl, st.flagByte_toNat,
    st.phaseByte_toNat, st.consumer.verdict.code_toNat, BitVec.toNat_ofNat _ _, BitVec.toNat_ofNat _ _, rfl, hword _,
    hword _, hhalf _, hhalf _, hhalf _, hhalf _, hhalf _, hhalf _, hhalf _, hhalf _,
    (BitVec.toNat_ofNat _ _).trans st.spanQueueCount_mod⟩

end Status

end Sys2Proof.Machine

namespace Sys2Proof.Machine

open Sys2Proof Sys2Proof.Safety

/-! ## The state after reset (log entry 1) -/

section Reset

@[simp] theorem State.reset_stream (i : StreamId) : State.reset.stream i = Stream.reset 0 :=
  Vector.getElem_replicate ..

@[simp] theorem State.reset_port (p : PortId) : State.reset.port p = Port.reset := Vector.getElem_replicate ..

@[simp] theorem State.reset_line (l : LineId) : State.reset.line l = Line.reset := Vector.getElem_replicate ..

/-- R20: a stream is CLOSED at reset. -/
@[simp] theorem Stream.reset_state (session : Nat) : (Stream.reset session).state = .closed := rfl

/-- A port is IDLE at reset. -/
@[simp] theorem Port.reset_txn : Port.reset.txn = none := rfl

/-- R150: the Notice Queue holds STARTED alone. -/
theorem reset_noticesInForm : NoticesInForm State.reset.queue := by
  simp [NoticesInForm, State.reset, startedNotice, accountFrom, Accounts, nextNumber]

theorem reset_tableInForm : TableInForm State.reset := by
  simp [TableInForm]

theorem reset_linesInForm : LinesInForm State.reset := by
  simp [LinesInForm, LineInForm, Line.reset]

theorem reset_portsInForm : PortsInForm State.reset := by
  have hmemory : State.reset.memory = none := rfl
  simp [PortsInForm, NothingDue, hmemory, Port.reset, Port.responseDue]

theorem reset_responsesInForm : ResponsesInForm State.reset := by
  simp [ResponsesInForm]

theorem reset_ringsInForm : RingsInForm State.reset := by
  simp [RingsInForm]

theorem reset_budgetsInForm : BudgetsInForm State.reset := by
  simp [BudgetsInForm]

/-- R151, R159: the management port is IDLE, and the divider stands at its default. -/
theorem reset_pinsInForm : PinsInForm State.reset := by
  decide

/-- Settles O60: after reset every stream is CLOSED, every port IDLE and every line UNBOUND, so that only the forms of the
queue, the management port and the timebase say anything of a record. -/
theorem resetStateMeetsEveryForm : Obligations.ResetStateMeetsEveryForm :=
  ⟨reset_noticesInForm, reset_tableInForm, reset_linesInForm, reset_portsInForm, reset_responsesInForm,
    reset_ringsInForm, reset_budgetsInForm, reset_pinsInForm⟩

end Reset

end Sys2Proof.Machine

namespace Sys2Proof.Machine

open Sys2Proof Sys2Proof.Safety

/-! ## The ports and the memory port (R24, R134)

The forms of the ports and of the responses (O56) read the port records and the memory port alone: `State.desk`. An
operation of the streams, the pace lines, the notices or the management port leaves the desk as it is by definition. What
the others do to a transaction in progress is a short list of changes (`TxnKept`); a rule on transactions that each change
keeps is kept by every operation, and with it the form of the segments. -/

/-- The port records and the memory port. -/
structure Desk where
  ports : Vector Port 4
  memory : Option Granted

/-- The record of port `p`. -/
def Desk.port (d : Desk) (p : PortId) : Port := d.ports[p]

/-- The ports and the memory port of a state. -/
def State.desk (s : State) : Desk := { ports := s.ports, memory := s.memory }

@[simp] theorem State.desk_port (s : State) (p : PortId) : s.desk.port p = s.port p := rfl
@[simp] theorem State.desk_memory (s : State) : s.desk.memory = s.memory := rfl

/-- Every transaction in progress meets the rule `T` of its port, and, where `Q` is asked, every segment that waits or is on
the memory port is in form. -/
structure Desk.Loose (Q : Prop) (T : PortId → Transaction → Prop) (d : Desk) : Prop where
  txn : ∀ p t, (d.port p).txn = some t → T p t
  segments : Q → ∀ p, ∀ g ∈ (d.port p).segments, SegmentInForm g
  memory : Q → ∀ g, d.memory = some g → SegmentInForm g.segment

/-- A loose desk on which, where `Q` is asked, no segment waits while the memory port is FREE. -/
structure Desk.Form (Q : Prop) (T : PortId → Transaction → Prop) (d : Desk) : Prop extends d.Loose Q T where
  idle : Q → d.memory = none → ∀ p, (d.port p).segments = []

/-- What a port's record may become: its transaction meets the rule `T`, and it has no worse segments and none where it had
none. -/
structure Port.Allowed (T : PortId → Transaction → Prop) (p : PortId) (port port' : Port) : Prop where
  txn : ∀ t, port'.txn = some t → T p t
  segments : (∀ g ∈ port.segments, SegmentInForm g) → ∀ g ∈ port'.segments, SegmentInForm g
  idle : port.segments = [] → port'.segments = []

section Desk

variable {Q : Prop} {T : PortId → Transaction → Prop} {s : State} {i : StreamId} {p : PortId}

/-! ### Changes of the records -/

/-- A change of each port as allowed keeps the form. -/
theorem Desk.Form.mapPorts {f : PortId → Port → Port} (h : s.desk.Form Q T)
    (hf : ∀ p, Port.Allowed T p (s.port p) (f p (s.port p))) : (s.mapPorts f).desk.Form Q T where
  txn p t := by
    rw [State.desk_port, State.port_mapPorts]
    exact (hf p).txn t
  segments hq p := by
    rw [State.desk_port, State.port_mapPorts]
    exact (hf p).segments (h.segments hq p)
  memory := h.memory
  idle hq hm p := by
    rw [State.desk_port, State.port_mapPorts]
    exact (hf p).idle (h.idle hq hm p)

/-- A change of one port as allowed keeps the form. -/
theorem Desk.Form.modPort {f : Port → Port} (h : s.desk.Form Q T) (hf : Port.Allowed T p (s.port p) (f (s.port p))) :
    (s.modPort p f).desk.Form Q T := by
  have hports : s.modPort p f = s.mapPorts fun q port => if q = p then f port else port := by
    have he : (s.modPort p f).ports = (s.mapPorts fun q port => if q = p then f port else port).ports :=
      State.ports_ext fun q => by
        by_cases hq : q = p
        · subst hq; simp
        · simp [hq]
    simp only [State.modPort, State.mapPorts] at he ⊢
    rw [he]
  rw [hports]
  refine h.mapPorts fun q => ?_
  by_cases hq : q = p
  · subst hq
    simpa using hf
  · simpa [hq] using ⟨h.txn q, id, id⟩

/-- A change of one port that may give it a segment leaves the desk loose. -/
theorem Desk.Form.loose_modPort {f : Port → Port} (h : s.desk.Form Q T)
    (htxn : ∀ t, (f (s.port p)).txn = some t → T p t)
    (hseg : Q → (∀ g ∈ (s.port p).segments, SegmentInForm g) → ∀ g ∈ (f (s.port p)).segments, SegmentInForm g) :
    (s.modPort p f).desk.Loose Q T where
  txn q t := by
    by_cases hq : q = p
    · subst hq
      simpa using htxn t
    · simpa [hq] using h.txn q t
  segments hQ q := by
    by_cases hq : q = p
    · subst hq
      simpa using hseg hQ (h.segments hQ q)
    · simpa [hq] using h.segments hQ q
  memory := h.memory

/-- A change of a transaction that keeps the rule keeps the form. -/
theorem Desk.Form.modTxn {f : Transaction → Transaction} (h : s.desk.Form Q T)
    (hf : ∀ t, (s.port p).txn = some t → T p t → T p (f t)) : (s.modTxn p f).desk.Form Q T :=
  h.modPort ⟨fun t ht => by
    obtain ⟨t', ht', rfl⟩ := Option.map_eq_some_iff.mp ht
    exact hf t' ht' (h.txn p t' ht'), id, id⟩

/-- A change of the segment on the memory port that keeps the number of its beats keeps the form. -/
theorem Desk.Form.mapMemory {d : Desk} {f : Granted → Granted} (h : d.Form Q T)
    (hf : ∀ g, (f g).segment.beats.length = g.segment.beats.length) :
    ({ d with memory := d.memory.map f } : Desk).Form Q T where
  txn := h.txn
  segments := h.segments
  memory hq g hg := by
    obtain ⟨g', hg', rfl⟩ := Option.map_eq_some_iff.mp hg
    simpa only [SegmentInForm, hf] using h.memory hq g' hg'
  idle hq hm := h.idle hq (Option.map_eq_none_iff.mp hm)

/-- The form with a stronger rule that the transactions meet. -/
theorem Desk.Form.strengthen {T' : PortId → Transaction → Prop} {d : Desk} (h : d.Form Q T)
    (ht : ∀ p t, (d.port p).txn = some t → T p t → T' p t) : d.Form Q T' :=
  { h with txn := fun p t hp => ht p t hp (h.txn p t hp) }

/-! ### The arbiter (R138) -/

/-- Granting to the first ready port of a list takes one segment, or finds none waiting. -/
theorem State.grantFirst_loose (h : s.desk.Loose Q T) (ps : List PortId) :
    (s.grantFirst ps).desk.Loose Q T
      ∧ ((s.grantFirst ps).memory = none → s.grantFirst ps = s ∧ ∀ q ∈ ps, (s.port q).segments = []) := by
  induction ps with
  | nil => exact ⟨h, fun _ => ⟨rfl, by simp⟩⟩
  | cons p ps ih =>
    rw [State.grantFirst]
    split
    · next hnone =>
      exact ⟨ih.1, fun hfree => ⟨(ih.2 hfree).1, by simpa [hnone] using (ih.2 hfree).2⟩⟩
    · next g rest hg =>
      have hport (q : PortId) : (s.grant p g rest).port q = if q = p then
          { s.port p with segments := rest, newestOpen := (s.port p).newestOpen && !rest.isEmpty } else s.port q := by
        have hmod : (s.grant p g rest).port q = (s.modPort p fun port =>
          { port with segments := rest, newestOpen := port.newestOpen && !rest.isEmpty }).port q := rfl
        rw [hmod]
        by_cases hq : q = p
        · subst hq; simp
        · simp [hq]
      refine ⟨⟨fun q t => ?_, fun hQ q => ?_, fun hQ g' hg' => ?_⟩, fun hfree => by cases hfree⟩
      · rw [State.desk_port, hport]
        split
        · next hq => exact hq ▸ h.txn p t
        · exact h.txn q t
      · rw [State.desk_port, hport]
        split
        · exact fun x hx => h.segments hQ p x (by simp [hg, show x ∈ rest from hx])
        · exact h.segments hQ q
      · obtain rfl : _ = g' := Option.some.inj hg'
        exact h.segments hQ p g (by simp [hg])

/-- Every port stands in the cyclic order of the arbiter. -/
theorem mem_cyclicAfter (p q : PortId) : q ∈ cyclicAfter p := by
  revert p q
  decide

/-- R138: once the arbiter has granted, no segment waits while the memory port is FREE. -/
theorem State.arbitrate_form (h : s.desk.Loose Q T) : s.arbitrate.desk.Form Q T := by
  unfold State.arbitrate
  split
  · next g hg => exact { h with idle := fun _ hm => by simp [hg] at hm }
  · next hm =>
    obtain ⟨hl, hnone⟩ := State.grantFirst_loose h (cyclicAfter s.lastGranted)
    refine { hl with idle := fun _ hfree q => ?_ }
    obtain ⟨he, hq⟩ := hnone hfree
    rw [he]
    exact hq q (mem_cyclicAfter _ _)

/-- R134: the memory port becomes FREE and is granted again. -/
theorem State.freeMemory_form (h : s.desk.Form Q T) : s.freeMemory.desk.Form Q T :=
  State.arbitrate_form ⟨h.txn, h.segments, by rintro - g ⟨⟩⟩

/-! ### Segment lists (R135 to R137) -/

theorem State.closeSegment_form (h : s.desk.Form Q T) : (s.closeSegment p).desk.Form Q T :=
  h.modPort ⟨h.txn p, id, id⟩

/-- R135: a forwarded beat joins a segment of fewer than 16 beats, or begins one. -/
theorem Port.joinSegment_inForm {port : Port} (h : ∀ g ∈ port.segments, SegmentInForm g) (kind : SegmentKind) (dir : Dir)
    (addr : Word) (b : Binding) (beat : SegmentBeat) :
    ∀ g ∈ (port.joinSegment kind dir addr b beat).segments, SegmentInForm g := by
  have hfresh : ∀ g ∈ port.segments ++
      [{ kind := kind, dir := dir, addr := addr, binding := some b, beats := [beat] }], SegmentInForm g := by
    intro g hg
    rcases List.mem_append.mp hg with hg | hg
    · exact h g hg
    · obtain rfl := List.mem_singleton.mp hg
      simp [SegmentInForm]
  unfold Port.joinSegment
  dsimp only
  split
  · next g hlast =>
    split
    · next hopen =>
      intro x hx
      rcases List.mem_append.mp hx with hx | hx
      · exact h x (List.mem_of_mem_dropLast hx)
      · obtain rfl := List.mem_singleton.mp hx
        have hfew : g.beats.length < 16 := by
          simp only [Segment.accepts, Bool.and_eq_true, decide_eq_true_eq] at hopen
          exact hopen.2.2
        simp only [SegmentInForm, List.length_append, List.length_singleton]
        omega
    · exact hfresh
  · exact hfresh

theorem Port.joinSegment_txn (port : Port) (kind : SegmentKind) (dir : Dir) (addr : Word) (b : Binding)
    (beat : SegmentBeat) : (port.joinSegment kind dir addr b beat).txn = port.txn := by
  unfold Port.joinSegment
  dsimp only
  split
  · split <;> rfl
  · rfl

/-- R137: the segments left after a withdrawal have beats, and no more than before. -/
theorem Port.withdraw_inForm {port : Port} (h : ∀ g ∈ port.segments, SegmentInForm g) (b : Binding) (ids : List Nat) :
    ∀ g ∈ (port.withdraw b ids).segments, SegmentInForm g := by
  intro g hg
  obtain ⟨hg, hne⟩ := List.mem_filter.mp hg
  obtain ⟨g', hg', rfl⟩ := List.mem_map.mp hg
  refine ⟨?_, (List.length_filter_le _ _).trans (h g' hg').2⟩
  simpa [Nat.one_le_iff_ne_zero] using hne

/-- R136: the one segment of a plain or PASS transaction has the transaction's beats. -/
theorem TransactionClass.whole_inForm {cls : TransactionClass} {dir : Dir} {addr : Word} {beats : Nat} {g : Segment}
    (hb : 1 ≤ beats ∧ beats ≤ 16) (hg : cls.whole dir addr beats = some g) : SegmentInForm g := by
  cases cls <;> cases hg <;> simpa [SegmentInForm, wholeSegment] using hb

/-- R136: a segment in form may be forwarded whole. -/
theorem State.forwardWhole_form {g : Segment} (h : s.desk.Form Q T) (hg : Q → SegmentInForm g) :
    (s.forwardWhole p g).desk.Form Q T :=
  State.arbitrate_form (h.loose_modPort (h.txn p) fun hQ hseg x hx => by
    rcases List.mem_append.mp hx with hx | hx
    · exact hseg x hx
    · exact List.mem_singleton.mp hx ▸ hg hQ)

@[simp] theorem Segment.length_setData (g : Segment) (k : Nat) (data : Word) (enables : BitVec 4) :
    (g.setData k data enables).beats.length = g.beats.length := by
  simp [Segment.setData]

end Desk

end Sys2Proof.Machine

namespace Sys2Proof.Machine

open Sys2Proof Sys2Proof.Safety

/-! ## What an operation can do to a transaction in progress -/

/-- A rule on transactions that a forwarded or completed beat and the end of a hold keep. -/
structure TxnWorked (T : PortId → Transaction → Prop) : Prop where
  work : ∀ {p t} n e, T p t → T p { t with outstanding := n, anyError := e }
  release : ∀ {p t}, T p t → T p { t with hold := none }

/-- R80, R81: the read `t`, whose beat `k` is a frame start, may be forwarded as REAL, held or deferred. -/
structure Startable (T : PortId → Transaction → Prop) (p : PortId) (k : Nat) (t : Transaction) : Prop where
  real : ∀ m, T p (t.markReal k m)
  wait : ∀ h, T p { t with hold := some h }
  defer : T p { t with deferred := true }

/-- A rule on transactions that every operation of the paths and every return upstream keeps. -/
structure TxnKept (T : PortId → Transaction → Prop) : Prop extends TxnWorked T where
  answer : ∀ {p t} k r, T p t → T p (t.answer k r)
  drop : ∀ {p t}, T p t → T p { t with responses := t.responses.drop 1 }
  fillRest : ∀ {p t} word, T p t → T p (t.fillRest word)
  undefer : ∀ {p t}, T p t → T p { t with deferred := false }
  stall : ∀ {p t} h, T p t → t.dir = .write → T p { t with hold := some h }
  decided : ∀ {p t}, T p t → t.deferred = true → Startable T p (t.position - 1) { t with deferred := false }
  released : ∀ {p t} m, T p t → t.hold ≠ none → T p (Transaction.markReal { t with hold := none } (t.position - 1) m)

section Paths

variable {Q : Prop} {T : PortId → Transaction → Prop} {s : State} {i : StreamId} {p : PortId}

/-! ### The Producer Path -/

/-- R47, R82, R92: a forwarded beat keeps the form. -/
theorem State.forward_form (W : TxnWorked T) (h : s.desk.Form Q T) (kind : SegmentKind) (dir : Dir) (addr : Word)
    (b : Binding) (beat : SegmentBeat) : (s.forward p kind dir addr b beat).desk.Form Q T := by
  have hout : (s.modTxn p fun t => { t with outstanding := t.outstanding + 1 }).desk.Form Q T :=
    h.modTxn fun t _ ht => W.work (t.outstanding + 1) t.anyError ht
  refine State.arbitrate_form (hout.loose_modPort (fun t ht => hout.txn p t ?_) fun _ hseg =>
    Port.joinSegment_inForm hseg kind dir addr b beat)
  rwa [Port.joinSegment_txn] at ht

theorem State.answerBeat_form (K : TxnKept T) (h : s.desk.Form Q T) (k : Nat) (r : Response) :
    (s.answerBeat p k r).desk.Form Q T :=
  State.closeSegment_form (h.modTxn fun _ _ ht => K.answer k r ht)

theorem State.endHold_form (W : TxnWorked T) (h : s.desk.Form Q T) : (s.endHold p).desk.Form Q T :=
  h.modTxn fun _ _ ht => W.release ht

theorem State.beginHold_form (h : s.desk.Form Q T) (limit : Nat) (data : Word)
    (ht : ∀ t, (s.port p).txn = some t → ∀ hold, T p { t with hold := some hold }) :
    (s.beginHold p limit data).desk.Form Q T :=
  State.closeSegment_form (h.modTxn fun t hp _ => ht t hp _)

theorem State.forwardPlaced_form (W : TxnWorked T) (h : s.desk.Form Q T) (k : Nat) (data : Word) (offset : Nat) :
    (s.forwardPlaced i p k data offset).desk.Form Q T := by
  unfold State.forwardPlaced
  dsimp only
  split
  · exact h
  · exact State.forward_form W (by exact h) ..

theorem State.startPlaced_form (W : TxnWorked T) (h : s.desk.Form Q T) (k : Nat) (data : Word) :
    (s.startPlaced i p k data).desk.Form Q T :=
  State.forwardPlaced_form W (s := s.paceFrameStart i .producer) h k data 0

/-- R44: a placed frame start keeps the form. -/
theorem State.placeFrame_form (W : TxnWorked T) (h : s.desk.Form Q T) (k : Nat) (data : Word) :
    (s.placeFrame i p k data).desk.Form Q T :=
  State.startPlaced_form W (s := s.enterFrame i) h k data

theorem State.absorbFrame_form (h : s.desk.Form Q T) : (s.absorbFrame i p).desk.Form Q T :=
  State.closeSegment_form (s := s.modProducer i _) h

theorem State.excessFrame_form (h : s.desk.Form Q T) : (s.excessFrame i p).desk.Form Q T := by
  unfold State.excessFrame
  dsimp only
  split <;> exact State.absorbFrame_form h

theorem State.overrunFrame_form (h : s.desk.Form Q T) : (s.overrunFrame i p).desk.Form Q T :=
  State.absorbFrame_form (s := (s.modProducer i _).count i _) h

theorem State.beginOverrun_form (h : s.desk.Form Q T) : (s.beginOverrun i p).desk.Form Q T :=
  State.overrunFrame_form (s := ((s.modStream i _).post .overrun _ .producer _ _).paceDrop i .producer) h

/-- R65: a room event keeps the form: the released beat is forwarded. -/
theorem State.roomEvent_form (W : TxnWorked T) (h : s.desk.Form Q T) : (s.roomEvent i).desk.Form Q T := by
  unfold State.roomEvent
  dsimp only
  split
  · split
    · next t _ =>
      split
      · have hfree : ((s.setProducerPhase i .flowing).endHold (s.stream i).desc.producerPort).desk.Form Q T :=
          State.endHold_form W h
        exact State.startPlaced_form W (by exact hfree) ..
      · exact h
    · exact h
  · exact h

/-- R43: a frame start of a port whose transaction is a write keeps the form. -/
theorem State.producerFrameStart_form (K : TxnKept T) (hw : ∀ t, T p t → t.dir = .write) (h : s.desk.Form Q T)
    (k : Nat) (data : Word) : (s.producerFrameStart i p k data).desk.Form Q T := by
  unfold State.producerFrameStart
  split
  · exact State.excessFrame_form h
  · exact State.placeFrame_form K.toTxnWorked h k data
  · exact State.beginOverrun_form h
  · have hheld : (s.beginHold p (s.stream i).desc.stallLimit data).desk.Form Q T :=
      State.beginHold_form h _ _ fun t ht hold => K.stall hold (h.txn p t ht) (hw t (h.txn p t ht))
    exact hheld
  · exact State.placeFrame_form K.toTxnWorked (by exact h) k data
  · exact State.overrunFrame_form h

/-- R52, R137: an abandonment withdraws waiting beats. -/
theorem State.abandonProducer_form (W : TxnWorked T) (h : s.desk.Form Q T) (keep : Nat) :
    (s.abandonProducer i p keep).desk.Form Q T := by
  refine Desk.Form.modPort (by exact h) ⟨fun t ht => ?_, fun hseg => Port.withdraw_inForm hseg _ _, fun hnil => ?_⟩
  · obtain ⟨t', ht', rfl⟩ := Option.map_eq_some_iff.mp ht
    exact W.work _ t'.anyError (h.txn p t' ht')
  · simp only [Port.withdraw, hnil, List.map_nil, List.filter_nil]

theorem State.endProducerFrame_form (W : TxnWorked T) (h : s.desk.Form Q T) :
    (s.endProducerFrame i p).desk.Form Q T := by
  unfold State.endProducerFrame
  dsimp only
  split
  · exact State.abandonProducer_form W h _
  · exact h

theorem State.losePlacement_form (W : TxnWorked T) (h : s.desk.Form Q T) (reason : Word) :
    (s.losePlacement i p reason).desk.Form Q T :=
  State.closeSegment_form (State.endProducerFrame_form W h)

theorem State.continueProducer_form (W : TxnWorked T) (h : s.desk.Form Q T) (k : Nat) (data : Word) (offset : Nat) :
    (s.continueProducer i p k data offset).desk.Form Q T := by
  unfold State.continueProducer
  dsimp only
  split
  · exact State.forwardPlaced_form W h k data offset
  · exact State.closeSegment_form (by exact h)

/-! ### The drain test (R108) -/

theorem State.fillHeldRead_form (K : TxnKept T) (h : s.desk.Form Q T) : (s.fillHeldRead i).desk.Form Q T := by
  unfold State.fillHeldRead
  split
  · split
    · exact h.modTxn fun _ _ ht => K.fillRest _ ht
    · exact h
  · exact h

theorem State.drainTest_form (K : TxnKept T) (h : s.desk.Form Q T) : (s.drainTest i).desk.Form Q T := by
  unfold State.drainTest
  split
  · exact State.fillHeldRead_form K h
  · exact h

/-- R40: a write beat of the Producer Path keeps the form. -/
theorem State.producerBeat_form (K : TxnKept T) (hw : ∀ t, T p t → t.dir = .write) (h : s.desk.Form Q T) (k : Nat)
    (data : Word) (full : Bool) (offset : Nat) : (s.producerBeat i p k data full offset).desk.Form Q T := by
  have hdrain {s' : State} (h' : s'.desk.Form Q T) (abandoned : Bool) :
      (s'.drainAfterAbandon i abandoned).desk.Form Q T := by
    unfold State.drainAfterAbandon
    split
    · exact State.drainTest_form K h'
    · exact h'
  unfold State.producerBeat
  dsimp only
  split
  · split_ifs
    · exact hdrain (State.losePlacement_form K.toTxnWorked h _) _
    · exact State.producerFrameStart_form K hw h k data
    · exact State.continueProducer_form K.toTxnWorked h k data offset
    · exact hdrain (State.producerFrameStart_form K hw
        (by exact State.endProducerFrame_form K.toTxnWorked h) k data) _
    · exact hdrain (State.losePlacement_form K.toTxnWorked h _) _
  · split_ifs
    · exact State.producerFrameStart_form K hw (by exact h) k data
    · exact State.closeSegment_form h

/-! ### The Consumer Path -/

theorem State.forwardReal_form (W : TxnWorked T) (h : s.desk.Form Q T) (k offset : Nat)
    (hreal : ∀ t, (s.port p).txn = some t → ∀ m, T p (t.markReal k m)) :
    (s.forwardReal i p k offset).desk.Form Q T := by
  unfold State.forwardReal
  dsimp only
  split
  · exact h
  · refine State.forward_form W ?_ ..
    exact Desk.Form.modTxn (by exact h) fun t ht _ => hreal t ht _

/-- R82: a REAL frame start keeps the form. -/
theorem State.startReal_form (W : TxnWorked T) (h : s.desk.Form Q T) (k : Nat)
    (hreal : ∀ t, (s.port p).txn = some t → ∀ m, T p (t.markReal k m)) : (s.startReal i p k).desk.Form Q T :=
  State.forwardReal_form W (by exact h) k 0 hreal

theorem State.fillBeat_form (K : TxnKept T) (h : s.desk.Form Q T) (k offset : Nat) :
    (s.fillBeat i p k offset).desk.Form Q T := by
  unfold State.fillBeat
  dsimp only
  split
  · exact State.answerBeat_form K (by exact h) k _
  · exact State.answerBeat_form K (by exact h) k _
  · split
    · exact State.forward_form K.toTxnWorked (by exact h) ..
    · exact State.answerBeat_form K (by exact h) k _

theorem State.fillFrame_form (K : TxnKept T) (h : s.desk.Form Q T) (k : Nat) : (s.fillFrame i p k).desk.Form Q T :=
  State.fillBeat_form K (by exact h) k 0

theorem State.waitFrame_form (h : s.desk.Form Q T)
    (hwait : ∀ t, (s.port p).txn = some t → ∀ hold, T p { t with hold := some hold }) :
    (s.waitFrame i p).desk.Form Q T := by
  have hheld : (s.beginHold p (s.stream i).desc.waitLimit 0#32).desk.Form Q T := State.beginHold_form h _ _ hwait
  exact hheld

theorem State.releaseHeldSlot_form (W : TxnWorked T) (h : s.desk.Form Q T) : (s.releaseHeldSlot i).desk.Form Q T := by
  unfold State.releaseHeldSlot
  dsimp only
  split
  · have hroom : ((s.modConsumer i fun cs => { cs with heldSlot := none, holdSource := .word }).roomEvent i).desk.Form Q T :=
      State.roomEvent_form W h
    exact hroom
  · exact h

/-- A rule on transactions with the mark of a REAL frame start on beat `k` of port `p` is kept as the rule itself is. -/
theorem TxnWorked.markable (W : TxnWorked T) (p : PortId) (k : Nat) :
    TxnWorked fun q t => T q t ∧ (q = p → ∀ m, T q (t.markReal k m)) where
  work n e h := ⟨W.work n e h.1, fun hq m => W.work n e (h.2 hq m)⟩
  release h := ⟨W.release h.1, fun hq m => W.release (h.2 hq m)⟩

/-- R94: a resumption keeps the form: the room event before it leaves the frame start as it was. -/
theorem State.resumeUnderrun_form (W : TxnWorked T) (h : s.desk.Form Q T) (k : Nat)
    (hreal : ∀ t, (s.port p).txn = some t → ∀ m, T p (t.markReal k m)) : (s.resumeUnderrun i p k).desk.Form Q T := by
  have hslot : (s.releaseHeldSlot i).desk.Form Q fun q t => T q t ∧ (q = p → ∀ m, T q (t.markReal k m)) :=
    State.releaseHeldSlot_form (W.markable p k)
      (h.strengthen fun q t ht hT => ⟨hT, fun hq => hq ▸ hreal t (hq ▸ ht)⟩)
  exact State.startReal_form W (by exact hslot.strengthen fun _ _ _ hT => hT.1) k
    fun t ht => (hslot.txn p t ht).2 rfl

/-- R80: a consumer frame start keeps the form where the beat may be forwarded, held and deferred. -/
theorem State.consumerFrameStart_form (K : TxnKept T) (h : s.desk.Form Q T) (k : Nat)
    (hstart : ∀ t, (s.port p).txn = some t → Startable T p k t) : (s.consumerFrameStart i p k).desk.Form Q T := by
  have hreal := fun t ht => (hstart t ht).real
  unfold State.consumerFrameStart
  split
  · exact State.answerBeat_form K h k _
  · exact State.startReal_form K.toTxnWorked h k hreal
  · exact h.modTxn fun t ht _ => (hstart t ht).defer
  · exact State.fillFrame_form K (by exact h) k
  · exact State.waitFrame_form h fun t ht => (hstart t ht).wait
  · exact State.resumeUnderrun_form K.toTxnWorked h k hreal
  · exact State.fillFrame_form K h k

/-- The consumer transaction of stream `i` is in progress on its consumer's port. -/
theorem State.txn_of_consumerTxn {t : Transaction} (h : s.consumerTxn i = some t) :
    (s.port (s.stream i).desc.consumerPort).txn = some t :=
  (Option.filter_eq_some_iff.mp h).1

/-- R81: the decision of a deferred beat keeps the form. -/
theorem State.decideDeferred_form (K : TxnKept T) (h : s.desk.Form Q T) : (s.decideDeferred i).desk.Form Q T := by
  unfold State.decideDeferred
  dsimp only
  split
  · next t ht =>
    have ht := State.txn_of_consumerTxn ht
    split
    · next hdef =>
      refine State.consumerFrameStart_form K (h.modTxn fun _ _ hT => K.undefer hT) _ fun t' ht' => ?_
      obtain rfl : _ = t' := by simpa [ht] using ht'
      exact K.decided (h.txn _ t ht) hdef
    · exact h
  · exact h

/-- R89: the release of a held read keeps the form. -/
theorem State.releaseWaiting_form (K : TxnKept T) (h : s.desk.Form Q T) : (s.releaseWaiting i).desk.Form Q T := by
  unfold State.releaseWaiting
  dsimp only
  split
  · next t ht =>
    have ht := State.txn_of_consumerTxn ht
    split
    · next hold hh =>
      refine State.startReal_form K.toTxnWorked (State.endHold_form K.toTxnWorked (by exact h)) _ fun t' ht' m => ?_
      obtain rfl : _ = t' := by simpa [State.endHold, State.setConsumerPhase, ht] using ht'
      exact K.released m (h.txn _ t ht) (by simp [hh])
    · exact h
  · exact h

theorem State.commitReachesConsumer_form (K : TxnKept T) (h : s.desk.Form Q T) :
    (s.commitReachesConsumer i).desk.Form Q T := by
  unfold State.commitReachesConsumer
  split
  · exact State.releaseWaiting_form K h
  · exact State.decideDeferred_form K h

@[simp] theorem State.endConsumerFrame_desk (s : State) (i : StreamId) : (s.endConsumerFrame i).desk = s.desk := by
  unfold State.endConsumerFrame
  split <;> rfl

/-- R77: a read beat of the Consumer Path keeps the form where it may be forwarded, held and deferred. -/
theorem State.consumerBeat_form (K : TxnKept T) (h : s.desk.Form Q T) (k offset : Nat)
    (hstart : ∀ t, (s.port p).txn = some t → Startable T p k t) : (s.consumerBeat i p k offset).desk.Form Q T := by
  have hend : (s.endConsumerFrame i).desk.Form Q T := s.endConsumerFrame_desk i ▸ h
  have hport : (s.endConsumerFrame i).port p = s.port p := congrArg (·.port p) (s.endConsumerFrame_desk i)
  unfold State.consumerBeat
  dsimp only
  split
  · exact State.answerBeat_form K h k _
  · split
    · split_ifs
      · exact State.consumerFrameStart_form K h k hstart
      · unfold State.continueConsumer
        split
        · exact State.forwardReal_form K.toTxnWorked h k offset fun t ht => (hstart t ht).real
        · exact State.fillBeat_form K h k offset
      · exact State.consumerFrameStart_form K (by exact hend) k fun t ht => hstart t (hport ▸ ht)
      · have hanswer : ((s.endConsumerFrame i).answerBeat p k (okayResponse (s.stream i).desc.fillWord)).desk.Form Q T :=
          State.answerBeat_form K hend k _
        exact hanswer
    · split_ifs
      · exact State.consumerFrameStart_form K (by exact h) k hstart
      · exact State.answerBeat_form K h k _

/-! ### Commits and consumes -/

@[simp] theorem State.budgetTest_desk (s : State) (i : StreamId) : (s.budgetTest i).desk = s.desk := by
  unfold State.budgetTest
  dsimp only
  split
  · split <;> rfl
  · rfl

@[simp] theorem State.endTest_desk (s : State) (i : StreamId) : (s.endTest i).desk = s.desk := by
  unfold State.endTest
  dsimp only
  split <;> rfl

@[simp] theorem State.spanConsume_desk (s : State) (i : StreamId) (slot : Nat) (faulted : Bool) :
    (s.spanConsume i slot faulted).desk = s.desk := by
  have hreport (sp : SpanState) : (s.spanReport i sp faulted).desk = s.desk := by
    unfold State.spanReport
    split
    · rfl
    · split
      · rfl
      · split <;> rfl
  unfold State.spanConsume
  split
  · rfl
  · next sp _ =>
    dsimp only
    split
    · exact hreport sp
    · rfl

/-- R49: a commit keeps the form. -/
theorem State.commit_form (K : TxnKept T) (h : s.desk.Form Q T) : (s.commit i).desk.Form Q T := by
  refine State.commitReachesConsumer_form K ?_
  rw [State.budgetTest_desk]
  exact h

theorem State.afterConsume_form (K : TxnKept T) (h : s.desk.Form Q T) : (s.afterConsume i).desk.Form Q T := by
  unfold State.afterConsume
  dsimp only
  split_ifs
  · exact State.drainTest_form K (State.decideDeferred_form K (by exact h))
  · exact State.drainTest_form K (by exact h)
  · exact State.decideDeferred_form K h
  · exact State.drainTest_form K h

/-- R83: a consume keeps the form. -/
theorem State.consume_form (K : TxnKept T) (h : s.desk.Form Q T) : (s.consume i).desk.Form Q T := by
  unfold State.consume
  split
  · exact h
  · next e l _ =>
    have hspan : ((s.modStream i Stream.consumeOldest).spanConsume i e.slot e.faulted).desk.Form Q T := by
      rw [State.spanConsume_desk]
      exact h
    refine State.afterConsume_form K ?_
    rw [State.endTest_desk]
    exact State.roomEvent_form K.toTxnWorked (by exact hspan)

/-! ### What is returned upstream (R23) -/

theorem State.realReturned_form (K : TxnKept T) (h : s.desk.Form Q T) (b : Binding) (m : RealMark) (r : Response) :
    (s.realReturned b m r).desk.Form Q T := by
  have hlast {s' : State} (h' : s'.desk.Form Q T) : (if m.last then s'.consume b.stream else s').desk.Form Q T := by
    split
    · exact State.consume_form K h'
    · exact h'
  unfold State.realReturned
  split
  · dsimp only
    split
    · split
      · exact hlast (by exact h)
      · exact h
    · split
      · refine hlast ?_
        split <;> exact h
      · exact h
  · exact h

theorem State.endRead_form (h : s.desk.Form Q T) : (s.modPort p Port.endRead).desk.Form Q T := by
  refine h.modPort ?_
  unfold Port.endRead
  split
  · split
    · exact ⟨by rintro t ⟨⟩, by simp, fun _ => rfl⟩
    · exact ⟨h.txn p, id, id⟩
  · exact ⟨h.txn p, id, id⟩

/-- R23: the return of a response keeps a form that the state without the response has. -/
theorem State.returnResponse_form (K : TxnKept T) {r : Response} (h : (s.modPort p (·.returnHead r)).desk.Form Q T)
    (x : ResponseSlot) : (s.returnResponse p x r).desk.Form Q T := by
  unfold State.returnResponse
  dsimp only
  refine State.endRead_form ?_
  split
  · exact State.realReturned_form K h _ _ _
  · exact h

theorem State.returnHead_form (K : TxnKept T) (h : s.desk.Form Q T) (r : Response) :
    (s.modPort p (·.returnHead r)).desk.Form Q T :=
  h.modPort ⟨fun t ht => by
    obtain ⟨t', ht', rfl⟩ := Option.map_eq_some_iff.mp ht
    exact K.drop (h.txn p t' ht'), id, id⟩

theorem State.returnDue_form (K : TxnKept T) (h : s.desk.Form Q T) (n : Nat) : (State.returnDue n s).desk.Form Q T := by
  induction n generalizing s with
  | zero => exact h
  | succ n ih =>
    rw [State.returnDue]
    split
    · exact h
    · exact ih (State.returnResponse_form K (State.returnHead_form K h _) _)

theorem Port.completeWrite_allowed {port : Port} (h : ∀ t, port.txn = some t → T p t) :
    Port.Allowed T p port port.completeWrite := by
  unfold Port.completeWrite
  split
  · split
    · exact ⟨by rintro t ⟨⟩, by simp, fun _ => rfl⟩
    · exact ⟨h, id, id⟩
  · exact ⟨h, id, id⟩

/-- R23: the return of what is due keeps the form. -/
theorem State.settle_form (K : TxnKept T) (h : s.desk.Form Q T) : s.settle.desk.Form Q T :=
  have hdue := State.returnDue_form K h maxResponses
  hdue.mapPorts fun p => Port.completeWrite_allowed (hdue.txn p)

end Paths

end Sys2Proof.Machine

namespace Sys2Proof.Machine

open Sys2Proof Sys2Proof.Safety

/-! ## Responses due (R23) -/

section Due

variable {s : State} {p : PortId}

/-- R23: the response due on a port is the known one that heads its list. -/
theorem Port.responseDue_eq_some_iff {port : Port} {x : ResponseSlot} {r : Response} :
    port.responseDue = some (x, r)
      ↔ ∃ t rest, port.txn = some t ∧ t.responses = x :: rest ∧ x.value = some r := by
  unfold Port.responseDue
  split
  · next t ht =>
    split
    · next y rest hy =>
      constructor
      · intro h
        obtain ⟨v, hv, he⟩ := Option.map_eq_some_iff.mp h
        obtain ⟨rfl, rfl⟩ := Prod.mk.inj he
        exact ⟨t, rest, ht, hy, hv⟩
      · rintro ⟨t', rest', ht', hrest, hv⟩
        obtain rfl := Option.some.inj (ht.symm.trans ht')
        obtain ⟨rfl, -⟩ := List.cons.inj (hy.symm.trans hrest)
        simp [hv]
    · next hnil =>
      refine ⟨(by rintro ⟨⟩), ?_⟩
      rintro ⟨t', rest', ht', hrest, -⟩
      obtain rfl := Option.some.inj (ht.symm.trans ht')
      exact absurd (hnil.symm.trans hrest) (by simp)
  · next hnone =>
    refine ⟨(by rintro ⟨⟩), ?_⟩
    rintro ⟨t', -, ht', -⟩
    exact absurd (hnone.symm.trans ht') (by simp)

/-- R23: no response is due where no port has one due. -/
theorem State.firstDue_eq_none_iff : s.firstDue = none ↔ ∀ p, (s.port p).responseDue = none := by
  simp [State.firstDue, allPorts, Fin.forall_fin_succ]

/-- R23: the first response due is one that is due on its port. -/
theorem State.responseDue_of_firstDue {x : ResponseSlot} {r : Response} (h : s.firstDue = some (p, x, r)) :
    (s.port p).responseDue = some (x, r) := by
  obtain ⟨q, -, hq⟩ := List.exists_of_findSome?_eq_some h
  obtain ⟨⟨x', r'⟩, hx, he⟩ := Option.map_eq_some_iff.mp hq
  simp only [Prod.mk.injEq] at he
  obtain ⟨rfl, rfl, rfl⟩ := he
  exact hx

/-- R23: a response due on a port with none due on a lower port is the first due. -/
theorem State.firstDue_of_lowest {x : ResponseSlot} {r : Response} (h : (s.port p).responseDue = some (x, r))
    (hlow : ∀ q : PortId, q.val < p.val → (s.port q).responseDue = none) : s.firstDue = some (p, x, r) := by
  have hlow0 := hlow 0
  have hlow1 := hlow 1
  have hlow2 := hlow 2
  fin_cases p <;> simp_all [State.firstDue, allPorts]

/-! ### Every response due is returned -/

/-- The responses a transaction owes, and the beats it may still be asked for. -/
def Transaction.owing (t : Transaction) : Nat := t.responses.length + (t.beats - t.position)

/-- A desk whose transactions meet a rule, with nothing asked of the segments. -/
theorem Desk.Form.of_txn {T : PortId → Transaction → Prop} {d : Desk}
    (h : ∀ p t, (d.port p).txn = some t → T p t) : d.Form False T :=
  { txn := h, segments := False.elim, memory := False.elim, idle := False.elim }

@[simp] theorem Transaction.length_answer (t : Transaction) (k : Nat) (r : Response) :
    (t.answer k r).responses.length = t.responses.length := List.length_map ..

@[simp] theorem Transaction.length_markReal (t : Transaction) (k : Nat) (m : RealMark) :
    (t.markReal k m).responses.length = t.responses.length := List.length_map ..

/-- R23: no operation of the paths raises what a transaction owes. -/
theorem txnKept_owing (a : PortId → Nat) : TxnKept fun q t => t.owing ≤ a q where
  work _ _ h := h
  release h := h
  answer k r h := by simpa [Transaction.owing, Transaction.answer] using h
  drop h := by
    simp only [Transaction.owing, List.length_drop] at h ⊢
    omega
  fillRest word h := by
    simp only [Transaction.owing, Transaction.fillRest, Transaction.answerRest, List.length_append,
      Transaction.length_answer, List.length_map, List.length_range'] at h ⊢
    simp only [Transaction.answer]
    omega
  undefer h := h
  stall _ h _ := h
  decided h _ := ⟨fun m => by simpa [Transaction.owing, Transaction.markReal] using h, fun _ => h, h⟩
  released m h _ := by simpa [Transaction.owing, Transaction.markReal] using h

/-- R23: a return lowers what its port owes by one, and raises what no port owes. -/
theorem State.returnResponse_owing {a : PortId → Nat} {x : ResponseSlot} {r : Response}
    (h : s.desk.Form False fun q t => t.owing ≤ a q) (hfirst : s.firstDue = some (p, x, r)) :
    ((s.returnResponse p x r).desk.Form False fun q t => t.owing ≤ Function.update a p (a p - 1) q)
      ∧ ∑ q, Function.update a p (a p - 1) q < ∑ q, a q := by
  obtain ⟨t, rest, ht, hrest, -⟩ := Port.responseDue_eq_some_iff.mp (State.responseDue_of_firstDue hfirst)
  have howes : t.owing ≤ a p := h.txn p t ht
  simp only [Transaction.owing, hrest, List.length_cons] at howes
  have hhead : (s.modPort p (·.returnHead r)).desk.Form False
      fun q t => t.owing ≤ Function.update a p (a p - 1) q := .of_txn fun q t' ht' => by
    by_cases hq : q = p
    · subst hq
      obtain rfl : _ = t' := by simpa [Port.returnHead, ht] using ht'
      simp only [Transaction.owing, hrest, List.tail_cons, Function.update_self]
      omega
    · rw [State.desk_port, State.port_modPort_ne _ hq] at ht'
      simpa [hq] using h.txn q t' ht'
  refine ⟨State.returnResponse_form (txnKept_owing _) hhead x, ?_⟩
  refine Finset.sum_lt_sum (fun q _ => ?_) ⟨p, Finset.mem_univ p, ?_⟩
  · by_cases hq : q = p
    · subst hq; simp
    · simp [hq]
  · rw [Function.update_self]
    omega

/-- R23: with as many returns as the ports owe responses at most, none is due in the end. -/
theorem State.returnDue_spent {a : PortId → Nat} {n : Nat} (h : s.desk.Form False fun q t => t.owing ≤ a q)
    (hn : ∑ q, a q ≤ n) : (State.returnDue n s).firstDue = none := by
  induction n generalizing s a with
  | zero =>
    refine Option.eq_none_iff_forall_ne_some.mpr fun y hy => ?_
    have hless := (State.returnResponse_owing h hy).2
    omega
  | succ n ih =>
    rw [State.returnDue]
    split
    · next hnone => exact hnone
    · next q x r hfirst =>
      obtain ⟨hform, hless⟩ := State.returnResponse_owing h hfirst
      exact ih hform (by omega)

/-- R23: once no response is due, no more are returned. -/
theorem State.returnDue_of_firstDue_eq_none (h : s.firstDue = none) (n : Nat) : State.returnDue n s = s := by
  cases n with
  | zero => rfl
  | succ n => rw [State.returnDue, h]

/-- R23: the number of returns allowed does not matter once it is as many as the ports owe. -/
theorem State.returnDue_succ_of_spent {n : Nat} (h : (State.returnDue n s).firstDue = none) :
    State.returnDue (n + 1) s = State.returnDue n s := by
  induction n generalizing s with
  | zero => exact State.returnDue_of_firstDue_eq_none h 1
  | succ n ih =>
    rw [State.returnDue, State.returnDue] at *
    split
    · rfl
    · next hfirst =>
      rw [hfirst] at h
      exact ih h

@[simp] theorem State.settle_port (s : State) (p : PortId) :
    s.settle.port p = ((State.returnDue maxResponses s).port p).completeWrite :=
  State.port_mapPorts ..

/-- R23: a write completion that is due is returned, and the port is IDLE. -/
theorem Port.completeWrite_of_done {port : Port} {t : Transaction} (ht : port.txn = some t) (hd : t.writeDone = true) :
    port.completeWrite =
      { port with txn := none, segments := [], newestOpen := false
                  completion := some (if t.anyError then .error else .okay) } := by
  unfold Port.completeWrite
  split
  · next t' ht' =>
    obtain rfl := Option.some.inj (ht.symm.trans ht')
    rw [if_pos hd]
  · next hnone => simp [hnone] at ht

/-- R23, R57: what a port's write completion leaves: the port as it was, its write not done, or an IDLE port. -/
theorem Port.completeWrite_cases (port : Port) :
    port.completeWrite.txn = none ∨ port.completeWrite = port ∧ ∀ t ∈ port.txn, t.writeDone = false := by
  by_cases h : ∀ t ∈ port.txn, t.writeDone = false
  · exact .inr ⟨Port.completeWrite_of_not_done h, h⟩
  · obtain ⟨t, ht, hd⟩ : ∃ t ∈ port.txn, t.writeDone = true := by simpa using h
    rw [Port.completeWrite_of_done ht hd]
    exact .inl rfl

/-- R23: where each port owes at most 16 responses, nothing due is kept back. -/
theorem State.settle_nothingDue (h : ∀ q t, (s.port q).txn = some t → t.owing ≤ 16) : NothingDue s.settle := by
  have hspent := State.firstDue_eq_none_iff.mp
    (State.returnDue_spent (a := fun _ => 16) (n := maxResponses) (.of_txn h) (by decide))
  intro p
  rw [State.settle_port]
  rcases ((State.returnDue maxResponses s).port p).completeWrite_cases with hnone | ⟨heq, hdone⟩
  · exact ⟨Port.responseDue_of_idle hnone, by simp [hnone]⟩
  · rw [heq]
    exact ⟨hspent p, hdone⟩

/-- R21: a transaction in form owes at most 16 responses. -/
theorem Transaction.owing_le {t : Transaction} (h : TransactionInForm t) : t.owing ≤ 16 := by
  obtain ⟨⟨-, hbeats⟩, hpos, hlen, -, -⟩ := h
  simp only [Transaction.owing]
  omega

end Due

end Sys2Proof.Machine

namespace Sys2Proof.Machine

open Sys2Proof Sys2Proof.Safety

/-! ## The events at the ports and the memory port keep the form -/

/-- R37, R38: the transaction `t` ended with error, the beats `onMemory` of it on the memory port. -/
def Transaction.failed (t : Transaction) (onMemory : List SegmentBeat) : Transaction :=
  match t.dir with
  | .read =>
      Transaction.errorRest { t with hold := none, deferred := false, anyError := true, endedWithError := true,
                                     outstanding := onMemory.length } (onMemory.map (·.beat))
  | .write =>
      { t with hold := none, deferred := false, anyError := true, endedWithError := true,
               outstanding := onMemory.length }

/-- R37, R38: a port whose transaction is ended with error waits with no segment. -/
theorem Port.endWithError_of_txn {port : Port} {t : Transaction} (h : port.txn = some t) (onMemory : List SegmentBeat) :
    port.endWithError onMemory =
      { port with segments := [], newestOpen := false, txn := some (t.failed onMemory) } := by
  cases hd : t.dir <;> simp [Port.endWithError, Transaction.failed, h, hd]

/-- R38: an IDLE port has nothing to end. -/
theorem Port.endWithError_of_idle {port : Port} (h : port.txn = none) (onMemory : List SegmentBeat) :
    port.endWithError onMemory = port := by
  simp [Port.endWithError, h]

/-- A rule on transactions that every command keeps; where `Q` is asked, a transaction has 1 to 16 beats. -/
structure TxnTaken (Q : Prop) (T : PortId → Transaction → Prop) : Prop extends TxnKept T where
  bound : ∀ {p t}, Q → T p t → 1 ≤ t.beats ∧ t.beats ≤ 16
  classify : ∀ {p t} cls, T p t → T p { t with cls := cls }
  write : ∀ {p t}, T p t → t.dir = .write → t.position < t.beats → T p { t with position := t.position + 1 }
  read : ∀ {p t}, T p t → t.dir = .read → t.hold = none → t.deferred = false → t.position < t.beats →
    T p (readHanded t) ∧ Startable T p t.position (readHanded t)
  tick : ∀ {p t}, T p t → T p { t with hold := t.hold.map Hold.tick }
  fail : ∀ {p t} onMemory, T p t → T p (t.failed onMemory)
  start : ∀ {beats} p dir addr, 1 ≤ beats → beats ≤ 16 → T p (Transaction.start dir addr beats)
  startRead : ∀ {beats} p addr cls, 1 ≤ beats → beats ≤ 16 → T p ((Transaction.start .read addr beats).startRead cls)

/-- A rule on transactions, and that the transaction of port `p` is a write, is kept as the rule itself is. -/
theorem TxnKept.andWrite {T : PortId → Transaction → Prop} (K : TxnKept T) (p : PortId) :
    TxnKept fun q t => T q t ∧ (q = p → t.dir = .write) where
  work n e h := ⟨K.work n e h.1, h.2⟩
  release h := ⟨K.release h.1, h.2⟩
  answer k r h := ⟨K.answer k r h.1, h.2⟩
  drop h := ⟨K.drop h.1, h.2⟩
  fillRest word h := ⟨K.fillRest word h.1, h.2⟩
  undefer h := ⟨K.undefer h.1, h.2⟩
  stall hold h hd := ⟨K.stall hold h.1 hd, h.2⟩
  decided h hd :=
    have hs := K.decided h.1 hd
    ⟨fun m => ⟨hs.real m, h.2⟩, fun hold => ⟨hs.wait hold, h.2⟩, ⟨hs.defer, h.2⟩⟩
  released m h hh := ⟨K.released m h.1 hh, h.2⟩

section Events

variable {Q : Prop} {T : PortId → Transaction → Prop} {s : State} {i : StreamId} {p : PortId}

/-! ### The memory controller's results -/

theorem State.beatOkay_form (K : TxnKept T) (h : s.desk.Form Q T) (x : SegmentBeat) :
    (s.beatOkay i x).desk.Form Q T := by
  unfold State.beatOkay
  dsimp only
  split
  · exact State.commit_form K (by exact h)
  · exact h

theorem State.producerOkay_form (K : TxnKept T) (h : s.desk.Form Q T) (beats : List SegmentBeat) :
    (s.producerOkay i beats).desk.Form Q T := by
  unfold State.producerOkay
  induction beats generalizing s with
  | nil => exact h
  | cons x beats ih => exact ih (State.beatOkay_form K h x)

@[simp] theorem State.loseByError_desk (s : State) (i : StreamId) (filling : Bool) :
    (s.loseByError i filling).desk = s.desk := by
  unfold State.loseByError
  split <;> rfl

theorem State.producerError_form (K : TxnKept T) (h : s.desk.Form Q T) (beats : List SegmentBeat) :
    (s.producerError i p beats).desk.Form Q T := by
  unfold State.producerError
  dsimp only
  split
  · refine State.drainTest_form K (State.roomEvent_form K.toTxnWorked ?_)
    rw [State.loseByError_desk]
    exact State.abandonProducer_form K.toTxnWorked h _
  · split <;> exact h

/-- R139, R140: the result of a write segment keeps the form. -/
theorem State.writeResult_form (K : TxnKept T) (h : s.desk.Form Q T) (g : Granted) (r : BusStatus) :
    (s.writeResult g r).desk.Form Q T := by
  have hresult (r' : BusStatus) :
      (s.modTxn g.owner fun t => t.completeSegment g.segment.beats.length r').desk.Form Q T :=
    h.modTxn fun t _ ht => K.work (t.outstanding - g.segment.beats.length) (t.anyError || r' == .error) ht
  unfold State.writeResult
  dsimp only
  split
  · split
    · exact hresult _
    · cases r
      · exact State.producerOkay_form K (hresult _) _
      · exact State.producerError_form K (hresult _) _
  · exact hresult _

/-- R139, R140: the result of a read beat keeps the form. -/
theorem State.readResult_form (K : TxnKept T) (h : s.desk.Form Q T) (g : Granted) (x : SegmentBeat) (data : Word)
    (r : BusStatus) : (s.readResult g x data r).desk.Form Q T := by
  have hanswer (v : Response) : (s.modTxn g.owner fun t => t.answer x.beat v).desk.Form Q T :=
    h.modTxn fun _ _ ht => K.answer x.beat v ht
  unfold State.readResult
  dsimp only
  split
  · exact hanswer _
  · split
    · unfold State.holdResult
      split
      · exact hanswer _
      · dsimp only
        split
        · exact hanswer _
        · exact hanswer _
    · exact hanswer _
    · exact hanswer _

/-! ### Requests and beats -/

theorem State.arbitrate_port_txn (s : State) (q : PortId) : (s.arbitrate.port q).txn = (s.port q).txn := by
  have hfirst (ps : List PortId) : ((s.grantFirst ps).port q).txn = (s.port q).txn := by
    induction ps with
    | nil => rfl
    | cons p ps ih =>
      rw [State.grantFirst]
      split
      · exact ih
      · next g rest _ =>
        have hmod : (s.grant p g rest).port q = (s.modPort p fun port =>
          { port with segments := rest, newestOpen := port.newestOpen && !rest.isEmpty }).port q := rfl
        rw [hmod]
        by_cases hq : q = p
        · subst hq; simp
        · simp [hq]
  unfold State.arbitrate
  split
  · rfl
  · exact hfirst _

@[simp] theorem State.classificationNotice_desk (s : State) (p : PortId) (addr : Word) (cls : TransactionClass) :
    (s.classificationNotice p addr cls).desk = s.desk := by
  cases cls <;> rfl

/-- R28: a transaction that takes its class keeps the form. -/
theorem State.assignClass_form (K : TxnTaken Q T) (h : s.desk.Form Q T) (cls : TransactionClass) {t : Transaction}
    (hb : Q → 1 ≤ t.beats ∧ t.beats ≤ 16) : (s.assignClass p cls t).desk.Form Q T := by
  have hcls : ((s.modTxn p fun t => { t with cls := some cls }).classificationNotice p t.addr cls).desk.Form Q T := by
    rw [State.classificationNotice_desk]
    exact h.modTxn fun _ _ ht => K.classify (some cls) ht
  unfold State.assignClass
  dsimp only
  split
  · next g hg => exact State.forwardWhole_form hcls fun hQ => TransactionClass.whole_inForm (hb hQ) hg
  · exact hcls

/-- R28: the class is the only change of the transaction. -/
theorem State.assignClass_port_txn (s : State) (p : PortId) (cls : TransactionClass) (t : Transaction) :
    ((s.assignClass p cls t).port p).txn = (s.port p).txn.map fun t => { t with cls := some cls } := by
  have hcls : (((s.modTxn p fun t => { t with cls := some cls }).classificationNotice p t.addr cls).port p).txn
      = (s.port p).txn.map fun t => { t with cls := some cls } := by
    rw [← State.desk_port, State.classificationNotice_desk, State.desk_port, State.port_modTxn_self]
  unfold State.assignClass
  dsimp only
  split
  · rw [State.forwardWhole, State.arbitrate_port_txn, State.port_modPort_self]
    exact hcls
  · exact hcls

theorem State.deliverData_form (K : TxnKept T) (h : s.desk.Form Q T) (k : Nat) (data : Word) (enables : BitVec 4) :
    (s.deliverData p k data enables).desk.Form Q T := by
  have hports : (s.modPort p fun port =>
      { port with segments := port.segments.map fun g => g.setData k data enables
                  txn := port.txn.map fun t => { t with outstanding := t.outstanding + 1 } }).desk.Form Q T := by
    refine h.modPort ⟨fun t ht => ?_, fun hseg g hg => ?_, fun hnil => by simp [hnil]⟩
    · obtain ⟨t', ht', rfl⟩ := Option.map_eq_some_iff.mp ht
      exact K.work (t'.outstanding + 1) t'.anyError (h.txn p t' ht')
    · obtain ⟨g', hg', rfl⟩ := List.mem_map.mp hg
      simpa only [SegmentInForm, Segment.length_setData] using hseg g' hg'
  refine hports.mapMemory fun g => ?_
  split <;> simp

/-- R22, R32: the disposition of a write beat keeps the form. -/
theorem State.disposeWrite_form (K : TxnKept T) (hw : ∀ t, T p t → t.dir = .write) (h : s.desk.Form Q T)
    (t : Transaction) (cls : TransactionClass) (data : Word) (enables : BitVec 4) :
    (s.disposeWrite p t cls data enables).desk.Form Q T := by
  have herror : (s.modTxn p fun t => { t with anyError := true }).desk.Form Q T :=
    h.modTxn fun t _ ht => K.work t.outstanding true ht
  unfold State.disposeWrite
  dsimp only
  split
  · exact State.deliverData_form K h _ _ _
  · exact State.deliverData_form K h _ _ _
  · exact herror
  · exact herror
  · exact herror
  · split_ifs
    · exact h
    · exact State.producerBeat_form K hw h _ _ _ _
    · exact State.closeSegment_form h
  · exact h

/-- R28: a write whose class is known takes its next beat as one of that class. -/
theorem State.acceptWrite_of_classed {t : Transaction} {cls : TransactionClass} (h : t.cls = some cls) (s : State)
    (p : PortId) (data : Word) (enables : BitVec 4) :
    s.acceptWrite p t data enables =
      (s.modTxn p fun t => { t with position := t.position + 1 }).disposeWrite p t cls data enables := by
  simp [State.acceptWrite, h]

/-- R28: a write with no class yet is classified by its first beat. -/
theorem State.acceptWrite_of_unclassed {t : Transaction} (h : t.cls = none) (s : State) (p : PortId) (data : Word)
    (enables : BitVec 4) :
    s.acceptWrite p t data enables =
      ((s.assignClass p (s.classify p .write t.addr t.beats) t).modTxn p fun t =>
        { t with position := t.position + 1 }).disposeWrite p t (s.classify p .write t.addr t.beats) data enables := by
  simp [State.acceptWrite, h]

/-- R22: an accepted write beat keeps the form. -/
theorem State.acceptWrite_form (K : TxnTaken Q T) (h : s.desk.Form Q T) {t : Transaction}
    (ht : (s.port p).txn = some t) (hacc : t.acceptsWrite = true) (data : Word) (enables : BitVec 4) :
    (s.acceptWrite p t data enables).desk.Form Q T := by
  obtain ⟨⟨hdir, -⟩, hpos⟩ : (t.dir = .write ∧ t.hold.isNone = true) ∧ t.position < t.beats := by
    simpa [Transaction.acceptsWrite] using hacc
  have hbeat {s' : State} {c : Option TransactionClass} (h' : s'.desk.Form Q T)
      (ht' : (s'.port p).txn = some { t with cls := c }) (cls : TransactionClass) :
      ((s'.modTxn p fun t => { t with position := t.position + 1 }).disposeWrite p t cls data enables).desk.Form Q T := by
    have hnext := h'.modTxn (p := p) (f := fun t => { t with position := t.position + 1 }) fun t' ht'' hT => by
      obtain rfl := Option.some.inj (ht'.symm.trans ht'')
      exact K.write hT hdir hpos
    have hwrite := hnext.strengthen (T' := fun q t => T q t ∧ (q = p → t.dir = .write)) fun q t' ht'' hT =>
      ⟨hT, fun hq => by
        subst hq
        obtain rfl : _ = t' := by simpa [ht'] using ht''
        exact hdir⟩
    exact (State.disposeWrite_form (K.andWrite p) (fun t hT => hT.2 rfl) hwrite t cls data enables).strengthen
      fun _ _ _ hT => hT.1
  cases hcls : t.cls with
  | none =>
    rw [State.acceptWrite_of_unclassed hcls]
    exact hbeat (State.assignClass_form K h _ fun hQ => K.bound hQ (h.txn p t ht))
      (by rw [State.assignClass_port_txn, ht]; rfl) _
  | some cls =>
    rw [State.acceptWrite_of_classed hcls]
    exact hbeat (c := t.cls) h ht _

/-- R77: a read beat handed on keeps the form. -/
theorem State.handRead_form (K : TxnTaken Q T) (h : s.desk.Form Q T) {t : Transaction}
    (ht : (s.port p).txn = some t) (hhands : t.handsRead = true) (b : Binding) :
    (s.handRead p t b).desk.Form Q T := by
  obtain ⟨⟨⟨hdir, hhold⟩, hdef⟩, hpos⟩ :
      ((t.dir = .read ∧ t.hold = none) ∧ t.deferred = false) ∧ t.position < t.beats := by
    simpa [Transaction.handsRead] using hhands
  obtain ⟨hT, hstart⟩ := K.read (h.txn p t ht) hdir hhold hdef hpos
  have hhanded : (s.modTxn p fun x =>
      { x with position := x.position + 1
               responses := x.responses ++ [{ beat := t.position, mark := none, value := none }] }).desk.Form Q T :=
    h.modTxn fun t' ht' _ => by
      obtain rfl := Option.some.inj (ht.symm.trans ht')
      exact hT
  unfold State.handRead
  dsimp only
  split
  · refine State.consumerBeat_form K.toTxnKept hhanded _ _ fun t' ht' => ?_
    obtain rfl : _ = t' := by simpa [ht] using ht'
    exact hstart
  · exact State.answerBeat_form K.toTxnKept hhanded _ _

/-- R21: a request taken keeps the form. -/
theorem State.acceptRequest_form (K : TxnTaken Q T) (h : s.desk.Form Q T) (dir : Dir) (addr : Word) {beats : Nat}
    (hb : 1 ≤ beats ∧ beats ≤ 16) : (s.acceptRequest p dir addr beats).desk.Form Q T := by
  have htxn (t : Transaction) (ht : T p t) : (s.modPort p fun port =>
      { port with txn := some t, segments := [], newestOpen := false, returned := [],
                  completion := none }).desk.Form Q T :=
    h.modPort ⟨by rintro t' ⟨⟩; exact ht, by simp, fun _ => rfl⟩
  have hstart := htxn _ (K.start p dir addr hb.1 hb.2)
  have hread {f : Transaction → Transaction} (hf : T p (f (Transaction.start .read addr beats))) :
      ((s.modPort p fun port =>
        { port with txn := some (Transaction.start .read addr beats), segments := [], newestOpen := false, returned := [],
                    completion := none }).modTxn p f).desk.Form Q T :=
    (htxn _ (K.start p .read addr hb.1 hb.2)).modTxn fun t' ht' _ => by
      obtain rfl : _ = t' := by simpa using ht'
      exact hf
  unfold State.acceptRequest
  dsimp only
  cases dir <;> dsimp only
  · split
    · exact hread (K.classify (some .overRange) (K.startRead p addr .overRange hb.1 hb.2))
    · exact State.assignClass_form K (hread (K.startRead p addr _ hb.1 hb.2)) _ fun _ => hb
  · split
    · exact hstart.modTxn fun _ _ hT => K.classify (some .overRange) hT
    · exact hstart

/-! ### Timers, commands and resets -/

/-- R66, R89: an expiry keeps the form. -/
theorem State.takeExpiry_form (K : TxnKept T) (h : s.desk.Form Q T) (t : Transaction) :
    (s.takeExpiry p t).desk.Form Q T := by
  have hfree : (s.endHold p).desk.Form Q T := State.endHold_form K.toTxnWorked h
  unfold State.takeExpiry
  split
  · split
    · exact State.beginOverrun_form hfree
    · exact h
  · split
    · exact State.fillFrame_form K (by exact hfree) _
    · exact h
  · exact h

/-- R26: a microsecond tick keeps the form. -/
theorem State.takeTick_form (K : TxnTaken Q T) (h : s.desk.Form Q T) : s.takeTick.desk.Form Q T :=
  h.mapPorts (f := fun _ port => port.tick) fun p => ⟨fun t ht => by
    obtain ⟨t', ht', rfl⟩ := Option.map_eq_some_iff.mp ht
    exact K.tick (h.txn p t' ht'), id, id⟩

/-- R37, R38: a transaction ended with error keeps the form. -/
theorem Port.endWithError_allowed (K : TxnTaken Q T) {port : Port} (h : ∀ t, port.txn = some t → T p t)
    (onMemory : List SegmentBeat) : Port.Allowed T p port (port.endWithError onMemory) := by
  cases ht : port.txn with
  | none =>
    rw [Port.endWithError_of_idle ht]
    exact ⟨h, id, id⟩
  | some t =>
    rw [Port.endWithError_of_txn ht]
    exact ⟨by rintro t' ⟨⟩; exact K.fail onMemory (h t ht), by simp, fun _ => rfl⟩

/-- R106: CLOSE DRAIN keeps the form before what is due is returned. -/
theorem State.beginDrain_form (K : TxnKept T) (h : s.desk.Form Q T) (i : StreamId) :
    ∃ s' : State, s.beginDrain i = s'.settle ∧ s'.desk.Form Q T := by
  refine ⟨_, rfl, State.drainTest_form K ?_⟩
  have hrelease {s1 : State} (h1 : s1.desk.Form Q T) : (s1.releaseByDrain i).desk.Form Q T := by
    unfold State.releaseByDrain
    dsimp only
    split
    · exact State.excessFrame_form (State.endHold_form K.toTxnWorked (by exact h1))
    · exact h1
  exact hrelease (s1 := s.modStream i fun st => { st with state := .draining }) h

/-- R110: CLOSE ABORT keeps the form before what is due is returned. -/
theorem State.abort_form (K : TxnTaken Q T) (h : s.desk.Form Q T) (i : StreamId) :
    ∃ s' : State, s.abort i = s'.settle ∧ s'.desk.Form Q T := by
  refine ⟨_, rfl, ?_⟩
  have hports : (s.mapPorts fun p port =>
      if port.onSession (s.binding i) then port.endWithError (s.beatsOnMemory p) else port).desk.Form Q T :=
    h.mapPorts fun p => by
      split
      · exact Port.endWithError_allowed K (h.txn p) _
      · exact ⟨h.txn p, id, id⟩
  exact hports.mapMemory (f := fun g => g.atAbort (s.binding i)) fun _ => rfl

/-- R38, R140: a reset keeps the form. -/
theorem State.resetBlocks_form (K : TxnTaken Q T) (h : s.desk.Form Q T) : s.resetBlocks.desk.Form Q T := by
  have hports : (s.mapPorts fun p port => port.atReset (s.beatsOnMemory p)).desk.Form Q T :=
    h.mapPorts fun p => by
      unfold Port.atReset
      split
      · split
        · exact Port.endWithError_allowed K (h.txn p) _
        · exact ⟨h.txn p, id, id⟩
      · exact ⟨h.txn p, id, id⟩
  exact hports.mapMemory (f := Granted.atReset) fun _ => rfl

end Events

end Sys2Proof.Machine

namespace Sys2Proof.Machine

open Sys2Proof Sys2Proof.Safety

/-! ## Commands keep the form of the desk -/

/-! ### Commands that leave the desk -/

theorem State.openCommand_desk (s : State) (target : Byte) (r : RawDescriptor) :
    (State.openCommand target r s).1.desk = s.desk := by
  unfold State.openCommand
  split
  · rfl
  · split <;> rfl

theorem State.extendCommand_desk (s : State) (target : Byte) (frames : BitVec 24) :
    (State.extendCommand target frames s).1.desk = s.desk := by
  unfold State.extendCommand
  split
  · rfl
  · split <;> rfl

theorem State.acknowledgeProducerCommand_desk (s : State) (target : Byte) :
    (State.acknowledgeProducerCommand target s).1.desk = s.desk := by
  unfold State.acknowledgeProducerCommand
  split
  · rfl
  · split_ifs <;> rfl

theorem State.acknowledgeConsumerCommand_desk (s : State) (target : Byte) :
    (State.acknowledgeConsumerCommand target s).1.desk = s.desk := by
  unfold State.acknowledgeConsumerCommand
  split
  · rfl
  · split_ifs <;> rfl

theorem State.statusCommand_desk (s : State) (target : Byte) : (State.statusCommand target s).1.desk = s.desk := by
  unfold State.statusCommand
  split <;> rfl

theorem State.takeNoticeCommand_desk (s : State) : s.takeNoticeCommand.1.desk = s.desk := by
  unfold State.takeNoticeCommand
  split <;> rfl

theorem State.bindPaceCommand_desk (s : State) (line stream side packet : Byte) :
    (State.bindPaceCommand line stream side packet s).1.desk = s.desk := by
  unfold State.bindPaceCommand
  split
  · split
    · rfl
    · split <;> rfl
  · rfl

theorem State.unbindPaceCommand_desk (s : State) (line : Byte) : (State.unbindPaceCommand line s).1.desk = s.desk := by
  unfold State.unbindPaceCommand
  split
  · rfl
  · split <;> rfl

theorem State.setIntegrityCommand_desk (s : State) (polynomial initial : Word) :
    (State.setIntegrityCommand polynomial initial s).1.desk = s.desk := by
  unfold State.setIntegrityCommand
  split_ifs <;> rfl

theorem State.setTimebaseCommand_desk (s : State) (divider : Byte) :
    (State.setTimebaseCommand divider s).1.desk = s.desk := by
  unfold State.setTimebaseCommand
  split_ifs <;> rfl

/-! ### What stands between two commands -/

/-- `P` is what stands between two commands where `F` stands within one: the return of what is due gives it, and a grant and a
tick keep it. -/
structure Desk.Settled (F P : Desk → Prop) : Prop where
  weaken : ∀ {d}, P d → F d
  settle : ∀ s : State, F s.desk → P s.settle.desk
  free : ∀ s : State, P s.desk → P s.freeMemory.desk
  tick : ∀ s : State, P s.desk → P s.takeTick.desk

namespace Desk.Settled

variable {Q : Prop} {T : PortId → Transaction → Prop} {P : Desk → Prop} {s t : State}

theorem closeDrainCommand (S : Desk.Settled (Desk.Form Q T) P) (K : TxnTaken Q T) (h : P s.desk) (target : Byte) :
    P (State.closeDrainCommand target s).1.desk := by
  unfold State.closeDrainCommand
  split
  · exact h
  · next i _ =>
    obtain ⟨s', hs', h'⟩ := State.beginDrain_form K.toTxnKept (S.weaken h) i
    split
    · exact h
    · exact h
    · exact hs' ▸ S.settle s' h'
    · exact h

theorem closeAbortCommand (S : Desk.Settled (Desk.Form Q T) P) (K : TxnTaken Q T) (h : P s.desk) (target : Byte) :
    P (State.closeAbortCommand target s).1.desk := by
  unfold State.closeAbortCommand
  split
  · exact h
  · next i _ =>
    obtain ⟨s', hs', h'⟩ := State.abort_form K (S.weaken h) i
    split
    · exact h
    · exact hs' ▸ S.settle s' h'
    · exact hs' ▸ S.settle s' h'
    · exact h

/-- R157: the command of a complete frame. -/
theorem applyFrame (S : Desk.Settled (Desk.Form Q T) P) (K : TxnTaken Q T) (h : P s.desk) (frame : List Byte) :
    P (State.applyFrame frame s).1.desk := by
  unfold State.applyFrame
  split
  · exact (s.openCommand_desk _ _).symm ▸ h
  · exact S.closeDrainCommand K h _
  · exact S.closeAbortCommand K h _
  · exact (s.extendCommand_desk _ _).symm ▸ h
  · exact (s.acknowledgeProducerCommand_desk _).symm ▸ h
  · exact (s.acknowledgeConsumerCommand_desk _).symm ▸ h
  · exact (s.statusCommand_desk _).symm ▸ h
  · exact s.takeNoticeCommand_desk.symm ▸ h
  · exact (s.bindPaceCommand_desk _ _ _ _).symm ▸ h
  · exact (s.unbindPaceCommand_desk _).symm ▸ h
  · exact (s.setIntegrityCommand_desk _ _).symm ▸ h
  · exact h
  · exact (s.setTimebaseCommand_desk _).symm ▸ h
  · exact h
  · exact h

/-- R152: a complete frame is its command. -/
theorem completeFrame {command : State → State × Answer} (hcommand : ∀ s : State, P s.desk → P (command s).1.desk)
    (h : P s.desk) (frame : List Byte) : P (s.completeFrame frame command).desk :=
  hcommand (s.modSpi _) h

/-- A command row keeps what its command keeps. -/
theorem row {command : State → State × Answer} {frame : List Byte}
    (hcommand : ∀ s : State, P s.desk → P (command s).1.desk) (h : P s.desk)
    (ht : Host.Outcome.next (φ := Fault) (ρ := Refusal) (s.frameRow frame command) = .next t) : P t.desk := by
  obtain rfl := Host.Outcome.next.inj ht
  unfold State.frameRow
  split
  · exact completeFrame hcommand h frame
  · exact h

/-- A command row of a command that leaves the desk leaves it. -/
theorem row_of_desk {command : State → State × Answer} {frame : List Byte}
    (hcommand : ∀ s : State, (command s).1.desk = s.desk) (h : P s.desk)
    (ht : Host.Outcome.next (φ := Fault) (ρ := Refusal) (s.frameRow frame command) = .next t) : P t.desk :=
  row (fun s h => (hcommand s).symm ▸ h) h ht

/-- R151: an edge of SCK is a bit, a byte or a complete frame. -/
theorem sckEdge (S : Desk.Settled (Desk.Form Q T) P) (K : TxnTaken Q T) (h : P s.desk) (edge : SckEdge)
    (ht : execSckEdge edge s = .next t) : P t.desk := by
  have hbyte (b : Byte) : P (s.receiveByte b).desk := by
    unfold State.receiveByte
    dsimp only
    split
    · exact h
    · exact h
    · split
      · exact completeFrame (fun s' h' => S.applyFrame K h' _) h _
      · exact h
    · exact h
    · exact h
  obtain rfl := Host.Outcome.next.inj ht
  split
  · cases edge
    · dsimp only [State.sckRising]
      split
      · exact hbyte _
      · exact h
    · exact h
  · exact h

/-! ### Events -/

theorem requestTaken (S : Desk.Settled (Desk.Form Q T) P) (K : TxnTaken Q T) (h : P s.desk) (p : PortId) (dir : Dir)
    (addr : Word) (beats : Nat) (ht : execRequestTaken p dir addr beats s = .next t) : P t.desk := by
  obtain rfl := Host.Outcome.next.inj ht
  split
  · next hok =>
    have hb : 1 ≤ beats ∧ beats ≤ 16 := by
      simp only [Bool.and_eq_true, burstLengthOk, decide_eq_true_eq] at hok
      exact hok.2
    exact S.settle _ (State.acceptRequest_form K (S.weaken h) dir addr hb)
  · exact h

theorem writeBeat (S : Desk.Settled (Desk.Form Q T) P) (K : TxnTaken Q T) (h : P s.desk) (p : PortId) (data : Word)
    (enables : BitVec 4) (ht : execWriteBeat p data enables s = .next t) : P t.desk := by
  obtain rfl := Host.Outcome.next.inj ht
  split
  · next x hx =>
    split
    · next hacc => exact S.settle _ (State.acceptWrite_form K (S.weaken h) hx hacc data enables)
    · exact h
  · exact h

theorem readBeat (S : Desk.Settled (Desk.Form Q T) P) (K : TxnTaken Q T) (h : P s.desk) (p : PortId)
    (ht : execReadBeat p s = .next t) : P t.desk := by
  obtain rfl := Host.Outcome.next.inj ht
  split
  · next x hx =>
    split
    · next b _ =>
      split
      · next hhands => exact S.settle _ (State.handRead_form K (S.weaken h) hx hhands b)
      · exact h
    · exact h
  · exact h

theorem holdTimerExpiry (S : Desk.Settled (Desk.Form Q T) P) (K : TxnTaken Q T) (h : P s.desk) (p : PortId)
    (ht : execHoldTimerExpiry p s = .next t) : P t.desk := by
  obtain rfl := Host.Outcome.next.inj ht
  split
  · split
    · split
      · exact S.settle _ (State.takeExpiry_form K.toTxnKept (S.weaken h) _)
      · exact h
    · exact h
  · exact h

theorem memoryWriteCompletion (S : Desk.Settled (Desk.Form Q T) P) (K : TxnTaken Q T) (h : P s.desk) (r : BusStatus)
    (ht : execMemoryWriteCompletion r s = .next t) : P t.desk := by
  obtain rfl := Host.Outcome.next.inj ht
  split
  · split
    · exact S.free _ (S.settle _ (State.writeResult_form K.toTxnKept (S.weaken h) _ _))
    · exact h
  · exact h

theorem memoryReadData (S : Desk.Settled (Desk.Form Q T) P) (K : TxnTaken Q T) (h : P s.desk) (data : Word)
    (r : BusStatus) (ht : execMemoryReadData data r s = .next t) : P t.desk := by
  obtain rfl := Host.Outcome.next.inj ht
  split
  · next g hg =>
    split
    · split
      · next x _ _ =>
        have hbusy : ({ s with memory := some { g with answered := g.answered + 1 } } : State).desk.Form Q T := by
          have hmap := (S.weaken h).mapMemory (f := fun g => { g with answered := g.answered + 1 }) fun _ => rfl
          rw [State.desk_memory, hg] at hmap
          exact hmap
        have hgone := hbusy.modTxn (p := g.owner) (f := fun t => { t with outstanding := t.outstanding - 1 })
          fun t _ hT => K.work (t.outstanding - 1) t.anyError hT
        have hsettled := S.settle _ (State.readResult_form K.toTxnKept hgone g x data r)
        dsimp only [State.endReadSegment]
        split
        · exact hsettled
        · exact S.free _ hsettled
      · exact h
    · exact h
  · exact h

theorem powerOnReset (S : Desk.Settled (Desk.Form Q T) P) (K : TxnTaken Q T) (h : P s.desk)
    (ht : execPowerOnReset s = .next t) : P t.desk := by
  obtain rfl := Host.Outcome.next.inj ht
  split
  · exact S.settle _ (by exact State.resetBlocks_form K (S.weaken h))
  · exact h

theorem powerOnResetEnd (h : P s.desk) (ht : execPowerOnResetEnd s = .next t) : P t.desk := by
  obtain rfl := Host.Outcome.next.inj ht
  split <;> exact h

theorem csnFall (h : P s.desk) (ht : execCsnFall s = .next t) : P t.desk := by
  obtain rfl := Host.Outcome.next.inj ht
  split_ifs <;> exact h

theorem csnRise (S : Desk.Settled (Desk.Form Q T) P) (K : TxnTaken Q T) (h : P s.desk)
    (ht : execCsnRise s = .next t) : P t.desk := by
  obtain rfl := Host.Outcome.next.inj ht
  split
  · exact h
  · split
    · dsimp only
      split
      · have hreset : ({ s with csHigh := true }.modSpi Management.endTransaction).resetBlocks.desk.Form Q T :=
          State.resetBlocks_form K (S.weaken h)
        exact S.settle _ (by exact hreset)
      · exact h
    · exact h

theorem unknown (h : P s.desk) {code : Byte} (ht : execUnknown code s = .next t) : P t.desk := by
  obtain rfl := Host.Outcome.next.inj ht
  split <;> exact h

theorem microsecondTick (S : Desk.Settled (Desk.Form Q T) P) (h : P s.desk)
    (ht : execMicrosecondTick s = .next t) : P t.desk := by
  obtain rfl := Host.Outcome.next.inj ht
  split
  · exact S.tick s h
  · exact h

/-! ### Every command and every step -/

theorem exec (S : Desk.Settled (Desk.Form Q T) P) (K : TxnTaken Q T) (h : P s.desk) (c : Instr)
    (ht : exec c s = .next t) : P t.desk := by
  cases c with
  | powerOnReset => exact S.powerOnReset K h ht
  | powerOnResetEnd => exact powerOnResetEnd h ht
  | csnFall => exact csnFall h ht
  | csnRise => exact S.csnRise K h ht
  | openStream target r => exact row_of_desk (State.openCommand_desk · target r) h ht
  | closeDrain target => exact row (fun _ h' => S.closeDrainCommand K h' target) h ht
  | closeAbort target => exact row (fun _ h' => S.closeAbortCommand K h' target) h ht
  | extend target frames => exact row_of_desk (State.extendCommand_desk · target frames) h ht
  | acknowledgeProducer target => exact row_of_desk (State.acknowledgeProducerCommand_desk · target) h ht
  | acknowledgeConsumer target => exact row_of_desk (State.acknowledgeConsumerCommand_desk · target) h ht
  | status target => exact row_of_desk (State.statusCommand_desk · target) h ht
  | takeNotice _ => exact row_of_desk State.takeNoticeCommand_desk h ht
  | bindPace line stream side packet =>
    exact row_of_desk (State.bindPaceCommand_desk · line stream side packet) h ht
  | unbindPace line => exact row_of_desk (State.unbindPaceCommand_desk · line) h ht
  | setIntegrity _ polynomial initial => exact row_of_desk (State.setIntegrityCommand_desk · polynomial initial) h ht
  | setAlertMask _ _ => exact row_of_desk (fun _ => rfl) h ht
  | setTimebase _ divider => exact row_of_desk (State.setTimebaseCommand_desk · divider) h ht
  | reset _ => exact row_of_desk (fun _ => rfl) h ht
  | unknown code => exact unknown h ht
  | requestTaken p dir addr beats => exact S.requestTaken K h p dir addr beats ht
  | writeBeat p data enables => exact S.writeBeat K h p data enables ht
  | readBeat p => exact S.readBeat K h p ht
  | microsecondTick => exact S.microsecondTick h ht
  | holdTimerExpiry p => exact S.holdTimerExpiry K h p ht
  | memoryWriteCompletion r => exact S.memoryWriteCompletion K h r ht
  | memoryReadData data r => exact S.memoryReadData K h data r ht
  | sckEdge edge => exact S.sckEdge K h edge ht

theorem step (S : Desk.Settled (Desk.Form Q T) P) (K : TxnTaken Q T) (h : P s.desk) (ht : step s = .next t) :
    P t.desk := by
  unfold Machine.step at ht
  split at ht
  · obtain rfl := Host.Outcome.next.inj ht
    unfold State.refclk
    split_ifs
    · exact h
    · exact S.tick s h
    · exact h
  · next c rest _ => exact S.exec K (s := { s with pending := rest }) h c ht

end Desk.Settled

/-! ## The forms of the ports and of the responses -/

/-- R21, R24: the record of a transaction within a command: as between two commands, but that a write may owe responses that
are known. -/
structure Transaction.Sized (t : Transaction) : Prop where
  beats : 1 ≤ t.beats ∧ t.beats ≤ 16
  position : t.position ≤ t.beats
  owed : t.responses.length ≤ t.position
  taken : ∀ k ∈ t.responses.map (·.beat), k < t.position
  write : t.dir = .write → ∀ v ∈ t.responses.map (·.value), v ≠ none

/-- R23, R81: the responses a read owes stand in order, and a deferred beat, the newest, is not a REAL one. -/
structure Transaction.Ordered (t : Transaction) : Prop where
  position : t.position ≤ t.beats
  ascending : (t.responses.map (·.beat)).Pairwise (· < ·)
  taken : ∀ k ∈ t.responses.map (·.beat), k < t.position
  deferred : t.deferred = true → t.hold = none ∧ ∀ x ∈ t.responses, x.beat + 1 = t.position → x.mark = none

section Responses

variable (t : Transaction) (k : Nat)

/-- An answer leaves the beats of the responses. -/
@[simp] theorem Transaction.beats_answer (r : Response) :
    (t.answer k r).responses.map (·.beat) = t.responses.map (·.beat) := by
  simp only [Transaction.answer, List.map_map]
  refine List.map_congr_left fun x _ => ?_
  simp only [Function.comp_apply]
  split <;> rfl

/-- A mark leaves the beats of the responses. -/
@[simp] theorem Transaction.beats_markReal (m : RealMark) :
    (t.markReal k m).responses.map (·.beat) = t.responses.map (·.beat) := by
  simp only [Transaction.markReal, List.map_map]
  refine List.map_congr_left fun x _ => ?_
  simp only [Function.comp_apply]
  split <;> rfl

/-- A mark leaves the values of the responses. -/
@[simp] theorem Transaction.values_markReal (m : RealMark) :
    (t.markReal k m).responses.map (·.value) = t.responses.map (·.value) := by
  simp only [Transaction.markReal, List.map_map]
  refine List.map_congr_left fun x _ => ?_
  simp only [Function.comp_apply]
  split <;> rfl

/-- An answer gives no known response up. -/
theorem Transaction.values_answer (r : Response) (h : ∀ v ∈ t.responses.map (·.value), v ≠ none) :
    ∀ v ∈ (t.answer k r).responses.map (·.value), v ≠ none := by
  simp only [Transaction.answer, List.map_map, List.mem_map, Function.comp_apply] at h ⊢
  rintro v ⟨x, hx, rfl⟩
  split
  · simp
  · exact h _ ⟨x, hx, rfl⟩

/-- The rest of the beats, answered, stand after those taken. -/
@[simp] theorem Transaction.beats_answerRest (r : Response) :
    (t.answerRest r).responses.map (·.beat)
      = t.responses.map (·.beat) ++ List.range' t.position (t.beats - t.position) := by
  simp [Transaction.answerRest, Function.comp_def]

@[simp] theorem Transaction.values_answerRest (r : Response) :
    (t.answerRest r).responses.map (·.value)
      = t.responses.map (·.value) ++ List.replicate (t.beats - t.position) (some r) := by
  simp [Transaction.answerRest, Function.comp_def]

/-- The responses of a read ended with error, before the rest of its beats is answered, are of the same beats. -/
theorem Transaction.failed_read {t : Transaction} (h : t.dir = .read) (onMemory : List SegmentBeat) :
    ∃ t' : Transaction, t.failed onMemory = t'.answerRest errorResponse ∧ t'.beats = t.beats ∧ t'.position = t.position
      ∧ t'.dir = .read ∧ t'.deferred = false ∧ t'.responses.map (·.beat) = t.responses.map (·.beat) := by
  unfold Transaction.failed
  rw [h]
  refine ⟨_, rfl, rfl, rfl, rfl, rfl, ?_⟩
  simp only [List.map_map]
  refine List.map_congr_left fun x _ => ?_
  simp only [Function.comp_apply]
  split <;> rfl

end Responses

namespace Transaction

variable {t t' : Transaction}

/-- What the size of a transaction reads: its direction, its counts, and the beats and values of its responses. -/
theorem Sized.congr (h : t.Sized) (hd : t'.dir = t.dir) (hb : t'.beats = t.beats) (hp : t'.position = t.position)
    (hbeats : t'.responses.map (·.beat) = t.responses.map (·.beat))
    (hvalues : t.dir = .write → ∀ v ∈ t'.responses.map (·.value), v ≠ none) : t'.Sized where
  beats := hb ▸ h.beats
  position := by rw [hb, hp]; exact h.position
  owed := by
    have hlen := congrArg List.length hbeats
    rw [List.length_map, List.length_map] at hlen
    rw [hlen, hp]
    exact h.owed
  taken := by rw [hbeats, hp]; exact h.taken
  write hw := hvalues (hd ▸ hw)

theorem Sized.answer (h : t.Sized) (k : Nat) (r : Response) : (t.answer k r).Sized :=
  h.congr rfl rfl rfl (t.beats_answer k r) fun hw => t.values_answer k r (h.write hw)

theorem Sized.markReal (h : t.Sized) (k : Nat) (m : RealMark) : (t.markReal k m).Sized :=
  h.congr rfl rfl rfl (t.beats_markReal k m) fun hw => t.values_markReal k m ▸ h.write hw

theorem Sized.answerRest (h : t.Sized) (r : Response) : (t.answerRest r).Sized where
  beats := h.beats
  position := le_rfl
  owed := by
    have howed := h.owed
    have hpos := h.position
    simp only [Transaction.answerRest, List.length_append, List.length_map, List.length_range']
    omega
  taken k hk := by
    show k < t.beats
    rw [beats_answerRest, List.mem_append, List.mem_range'_1] at hk
    have hpos := h.position
    rcases hk with hk | hk
    · exact (h.taken k hk).trans_le hpos
    · omega
  write hw v hv := by
    rw [values_answerRest, List.mem_append] at hv
    rcases hv with hv | hv
    · exact h.write hw v hv
    · simp [List.eq_of_mem_replicate hv]

theorem Sized.failed (h : t.Sized) (onMemory : List SegmentBeat) : (t.failed onMemory).Sized := by
  cases hd : t.dir with
  | read =>
    obtain ⟨t', he, hb, hp, hd', -, hbeats⟩ := failed_read hd onMemory
    have ht' : t'.Sized := h.congr (hd'.trans hd.symm) hb hp hbeats fun hw => by simp [hd] at hw
    exact he ▸ ht'.answerRest _
  | write =>
    have he : t.failed onMemory = { t with hold := none, deferred := false, anyError := true, endedWithError := true,
                                           outstanding := onMemory.length } := by simp only [Transaction.failed, hd]
    exact he ▸ h.congr rfl rfl rfl rfl h.write

/-- R21: a request just taken is sized. -/
theorem Sized.start {beats : Nat} (dir : Dir) (addr : Word) (hb : 1 ≤ beats ∧ beats ≤ 16) :
    (Transaction.start dir addr beats).Sized where
  beats := hb
  position := Nat.zero_le _
  owed := le_rfl
  taken := by rintro k ⟨⟩
  write := by rintro - v ⟨⟩

/-- R30, R33: a read all of whose beats are forwarded is sized. -/
theorem Sized.forwardReads (h : t.Sized) (hd : t.dir = .read) : t.forwardReads.Sized where
  beats := h.beats
  position := le_rfl
  owed := by simp [Transaction.forwardReads]
  taken k hk := by simpa [Transaction.forwardReads, Function.comp_def] using hk
  write hw := by simp [Transaction.forwardReads, hd] at hw

/-- R77: a read whose next beat is handed on is sized. -/
theorem Sized.handed (h : t.Sized) (hd : t.dir = .read) (hp : t.position < t.beats) : (readHanded t).Sized where
  beats := h.beats
  position := hp
  owed := by simpa [readHanded] using h.owed
  taken k hk := by
    show k < t.position + 1
    simp only [readHanded, List.map_append, List.map_cons, List.map_nil, List.mem_append, List.mem_singleton] at hk
    rcases hk with hk | rfl
    · exact Nat.lt_succ_of_lt (h.taken k hk)
    · exact Nat.lt_succ_self _
  write hw := by simp [readHanded, hd] at hw

/-- R23, R24: the rule of a sized transaction is kept by every command. -/
theorem sized_taken : TxnTaken True fun _ => Sized where
  work _ _ h := ⟨h.beats, h.position, h.owed, h.taken, h.write⟩
  release h := ⟨h.beats, h.position, h.owed, h.taken, h.write⟩
  answer k r h := h.answer k r
  drop h :=
    { beats := h.beats
      position := h.position
      owed := by
        have howed := h.owed
        simp only [List.length_drop]
        omega
      taken := fun k hk => h.taken k (List.mem_of_mem_drop (List.map_drop ▸ hk))
      write := fun hw v hv => h.write hw v (List.mem_of_mem_drop (List.map_drop ▸ hv)) }
  fillRest word h :=
    have hrest := (h.answer _ (okayResponse word)).answerRest (okayResponse word)
    ⟨hrest.beats, hrest.position, hrest.owed, hrest.taken, hrest.write⟩
  undefer h := ⟨h.beats, h.position, h.owed, h.taken, h.write⟩
  stall _ h _ := ⟨h.beats, h.position, h.owed, h.taken, h.write⟩
  decided {_ t} h _ :=
    have hfree : ({ t with deferred := false } : Transaction).Sized := ⟨h.beats, h.position, h.owed, h.taken, h.write⟩
    ⟨fun m => hfree.markReal _ m, fun _ => ⟨h.beats, h.position, h.owed, h.taken, h.write⟩,
      ⟨h.beats, h.position, h.owed, h.taken, h.write⟩⟩
  released {_ t} m h _ :=
    have hfree : ({ t with hold := none } : Transaction).Sized := ⟨h.beats, h.position, h.owed, h.taken, h.write⟩
    hfree.markReal _ m
  bound _ h := h.beats
  classify _ h := ⟨h.beats, h.position, h.owed, h.taken, h.write⟩
  write h _ hp :=
    ⟨h.beats, hp, Nat.le_succ_of_le h.owed, fun k hk => Nat.lt_succ_of_lt (h.taken k hk), h.write⟩
  read h hd _ _ hp :=
    have hh := h.handed hd hp
    ⟨hh, fun m => hh.markReal _ m, fun _ => ⟨hh.beats, hh.position, hh.owed, hh.taken, hh.write⟩,
      ⟨hh.beats, hh.position, hh.owed, hh.taken, hh.write⟩⟩
  tick h := ⟨h.beats, h.position, h.owed, h.taken, h.write⟩
  fail onMemory h := h.failed onMemory
  start _ dir addr h1 h2 := .start dir addr ⟨h1, h2⟩
  startRead _ addr cls h1 h2 := by
    have hs := Sized.start .read addr ⟨h1, h2⟩
    unfold Transaction.startRead
    split_ifs
    · exact hs.answerRest _
    · exact hs.forwardReads rfl
    · exact hs

/-! ### The order of the responses -/

/-- What the order of the responses reads, where no beat is deferred. -/
theorem Ordered.congr (h : t.Ordered) (hb : t'.beats = t.beats) (hp : t'.position = t.position)
    (hbeats : t'.responses.map (·.beat) = t.responses.map (·.beat)) (hd : t'.deferred = false) : t'.Ordered where
  position := by rw [hb, hp]; exact h.position
  ascending := hbeats ▸ h.ascending
  taken := by rw [hbeats, hp]; exact h.taken
  deferred hdef := by simp [hd] at hdef

theorem Ordered.answer (h : t.Ordered) (k : Nat) (r : Response) : (t.answer k r).Ordered where
  position := h.position
  ascending := (t.beats_answer k r).symm ▸ h.ascending
  taken := (t.beats_answer k r).symm ▸ h.taken
  deferred hdef := by
    obtain ⟨hhold, hmark⟩ := h.deferred hdef
    refine ⟨hhold, fun x hx hbeat => ?_⟩
    obtain ⟨y, hy, rfl⟩ := List.mem_map.mp hx
    split at hbeat <;> split <;> exact hmark y hy hbeat

theorem Ordered.answerRest (h : t.Ordered) (hd : t.deferred = false) (r : Response) : (t.answerRest r).Ordered where
  position := le_rfl
  ascending := by
    rw [beats_answerRest]
    refine List.pairwise_append.mpr ⟨h.ascending, List.pairwise_lt_range', fun a ha b hb => ?_⟩
    exact (h.taken a ha).trans_le (List.mem_range'_1.mp hb).1
  taken k hk := by
    show k < t.beats
    rw [beats_answerRest, List.mem_append, List.mem_range'_1] at hk
    have hpos := h.position
    rcases hk with hk | hk
    · exact (h.taken k hk).trans_le hpos
    · omega
  deferred hdef := by
    have hdef : t.deferred = true := hdef
    simp [hd] at hdef

/-- R77: a read whose next beat is handed on is ordered, and its newest beat carries no mark. -/
theorem Ordered.handed (h : t.Ordered) (hp : t.position < t.beats) (hd : t.deferred = false) :
    (readHanded t).Ordered where
  position := hp
  ascending := by
    simp only [readHanded, List.map_append, List.map_cons, List.map_nil]
    refine List.pairwise_append.mpr ⟨h.ascending, List.pairwise_singleton _ _, fun a ha b hb => ?_⟩
    exact List.mem_singleton.mp hb ▸ h.taken a ha
  taken k hk := by
    show k < t.position + 1
    simp only [readHanded, List.map_append, List.map_cons, List.map_nil, List.mem_append, List.mem_singleton] at hk
    rcases hk with hk | rfl
    · exact Nat.lt_succ_of_lt (h.taken k hk)
    · exact Nat.lt_succ_self _
  deferred hdef := by
    have hdef : t.deferred = true := hdef
    simp [hd] at hdef

theorem handed_newest (h : t.Ordered) : ∀ x ∈ (readHanded t).responses, x.beat + 1 = (readHanded t).position →
    x.mark = none := by
  intro x hx hbeat
  have hbeat : x.beat + 1 = t.position + 1 := hbeat
  rcases List.mem_append.mp hx with hx | hx
  · have hlt := h.taken x.beat (List.mem_map_of_mem hx)
    omega
  · obtain rfl := List.mem_singleton.mp hx
    rfl

/-- A read that is ordered and not deferred may be marked and held. -/
theorem Ordered.startable {p : PortId} (h : t.Ordered) (hd : t.deferred = false) (hhold : t.hold = none)
    (hmark : ∀ x ∈ t.responses, x.beat + 1 = t.position → x.mark = none) (k : Nat) :
    Startable (fun _ t => t.dir = .read → t.Ordered) p k t where
  real m _ := h.congr rfl rfl (t.beats_markReal k m) hd
  wait _ _ := h.congr rfl rfl rfl hd
  defer _ := ⟨h.position, h.ascending, h.taken, fun _ => ⟨hhold, hmark⟩⟩

/-- R81: only a beat that is not held is deferred. -/
theorem Ordered.not_deferred (h : t.Ordered) (hhold : t.hold ≠ none) : t.deferred = false := by
  by_contra hd
  exact hhold (h.deferred (by simpa using hd)).1

theorem Ordered.start {beats : Nat} (addr : Word) : (Transaction.start .read addr beats).Ordered where
  position := Nat.zero_le _
  ascending := List.Pairwise.nil
  taken := by rintro k ⟨⟩
  deferred := by rintro ⟨⟩

/-- R23, R81: the rule of a read's responses is kept by every command. -/
theorem ordered_taken : TxnTaken False fun _ t => t.dir = .read → t.Ordered where
  work _ _ h hd := ⟨(h hd).position, (h hd).ascending, (h hd).taken, (h hd).deferred⟩
  release h hd :=
    ⟨(h hd).position, (h hd).ascending, (h hd).taken, fun hdef => ⟨rfl, ((h hd).deferred hdef).2⟩⟩
  answer k r h hd := (h hd).answer k r
  drop h hd :=
    { position := (h hd).position
      ascending := List.map_drop ▸ (h hd).ascending.drop
      taken := fun k hk => (h hd).taken k (List.mem_of_mem_drop (List.map_drop ▸ hk))
      deferred := fun hdef =>
        ⟨((h hd).deferred hdef).1, fun x hx => ((h hd).deferred hdef).2 x (List.mem_of_mem_drop hx)⟩ }
  fillRest {_ t} word h hd :=
    have hrest := (((h hd).answer (t.position - 1) (okayResponse word)).congr (t' := { t.answer (t.position - 1)
      (okayResponse word) with hold := none, deferred := false }) rfl rfl rfl rfl).answerRest rfl (okayResponse word)
    hrest
  undefer h hd := (h hd).congr rfl rfl rfl rfl
  stall _ _ hw hd := absurd (hw.symm.trans hd) (by decide)
  decided {_ t} h hdef :=
    have hs (hd : t.dir = .read) : Startable (fun _ t => t.dir = .read → t.Ordered) 0 (t.position - 1)
        { t with deferred := false } :=
      ((h hd).congr (t' := { t with deferred := false }) rfl rfl rfl rfl).startable rfl ((h hd).deferred hdef).1
        ((h hd).deferred hdef).2 _
    ⟨fun m hd => (hs hd).real m hd, fun hold hd => (hs hd).wait hold hd, fun hd => (hs hd).defer hd⟩
  released {_ t} m h hhold hd :=
    (h hd).congr rfl rfl (t.beats_markReal _ m) ((h hd).not_deferred hhold)
  bound := False.elim
  classify _ h hd := ⟨(h hd).position, (h hd).ascending, (h hd).taken, (h hd).deferred⟩
  write _ hw _ hd := absurd (hw.symm.trans hd) (by decide)
  read h hd hhold hdef hp :=
    have hh := (h hd).handed hp hdef
    ⟨fun _ => hh, hh.startable hdef hhold (handed_newest (h hd)) _⟩
  tick h hd :=
    ⟨(h hd).position, (h hd).ascending, (h hd).taken, fun hdef =>
      ⟨Option.map_eq_none_iff.mpr ((h hd).deferred hdef).1, ((h hd).deferred hdef).2⟩⟩
  fail {_ t} onMemory h hd := by
    cases hdir : t.dir with
    | read =>
      obtain ⟨t', he, hb, hp, -, hdef, hbeats⟩ := failed_read hdir onMemory
      exact he ▸ ((h hdir).congr hb hp hbeats hdef).answerRest hdef _
    | write =>
      simp [Transaction.failed, hdir] at hd
  start _ dir addr _ _ hd := by
    obtain rfl : dir = .read := hd
    exact .start addr
  startRead {beats} _ addr cls _ _ _ := by
    have hs : (Transaction.start .read addr beats).Ordered := .start addr
    unfold Transaction.startRead
    split_ifs
    · exact hs.answerRest rfl _
    · refine ⟨le_rfl, ?_, fun k hk => ?_, by rintro ⟨⟩⟩
      · simpa [Transaction.forwardReads, Function.comp_def] using List.pairwise_lt_range
      · simpa [Transaction.forwardReads, Function.comp_def] using hk
    · exact hs

end Transaction

/-! ## Every step keeps the ports and the responses in form -/

section Forms

variable {s : State} {p : PortId}

/-- R23: nothing due is kept back on the ports of a desk. -/
def Desk.NothingDue (d : Desk) : Prop :=
  ∀ p : PortId, (d.port p).responseDue = none ∧ ∀ t ∈ (d.port p).txn, t.writeDone = false

/-- The form of the ports between two commands. -/
def Desk.PortsInForm (d : Desk) : Prop := d.Form True (fun _ => Transaction.Sized) ∧ d.NothingDue

/-- R23: a write that owes a known response has one due. -/
theorem Transaction.Sized.write_owes_none {t : Transaction} (h : t.Sized) (ht : (s.port p).txn = some t)
    (hdue : (s.port p).responseDue = none) (hw : t.dir = .write) : t.responses = [] := by
  cases hr : t.responses with
  | nil => rfl
  | cons x rest =>
    obtain ⟨r, hx⟩ := Option.ne_none_iff_exists'.mp (h.write hw x.value (by simp [hr]))
    have hsome := Port.responseDue_eq_some_iff.mpr ⟨t, rest, ht, hr, hx⟩
    rw [hdue] at hsome
    cases hsome

/-- The form of the ports is that of the statements. -/
theorem State.desk_portsInForm_iff : s.desk.PortsInForm ↔ Safety.PortsInForm s := by
  constructor
  · rintro ⟨h, hdue⟩
    refine ⟨fun p => ⟨fun t ht => ?_, h.segments trivial p⟩, h.memory trivial, h.idle trivial, hdue⟩
    have hs := h.txn p t ht
    exact ⟨hs.beats, hs.position, hs.owed, fun x hx => hs.taken x.beat (List.mem_map_of_mem hx),
      hs.write_owes_none ht (hdue p).1⟩
  · rintro ⟨hports, hmemory, hidle, hdue⟩
    refine ⟨⟨⟨fun p t ht => ?_, fun _ p => (hports p).2, fun _ => hmemory⟩, fun _ => hidle⟩, hdue⟩
    obtain ⟨hbeats, hpos, hlen, htaken, hwrite⟩ := (hports p).1 t ht
    refine ⟨hbeats, hpos, hlen, fun k hk => ?_, fun hw => by simp [hwrite hw]⟩
    obtain ⟨x, hx, rfl⟩ := List.mem_map.mp hk
    exact htaken x hx

/-- R23: what stands due on a port reads its transaction alone. -/
theorem Port.responseDue_congr {port port' : Port} (h : port'.txn = port.txn) : port'.responseDue = port.responseDue := by
  unfold Port.responseDue
  rw [h]

/-- R23, R138: a command ends with the ports in form: what is due is returned, and a grant or a tick makes nothing due. -/
theorem Desk.portsInForm_settled : Desk.Settled (Desk.Form True fun _ => Transaction.Sized) Desk.PortsInForm where
  weaken h := h.1
  settle s h := ⟨State.settle_form Transaction.sized_taken.toTxnKept h, State.settle_nothingDue fun q t ht => by
    have hs := h.txn q t ht
    have hbeats := hs.beats
    have hpos := hs.position
    have howed := hs.owed
    simp only [Transaction.owing]
    omega⟩
  free s h := ⟨State.freeMemory_form h.1, fun p => by
    have htxn : (s.freeMemory.desk.port p).txn = (s.port p).txn := State.arbitrate_port_txn { s with memory := none } p
    rw [Port.responseDue_congr htxn, htxn]
    exact h.2 p⟩
  tick s h := ⟨State.takeTick_form Transaction.sized_taken h.1, fun p => by
    have hport : s.takeTick.desk.port p = (s.port p).tick := State.port_mapPorts s (fun _ port => port.tick) p
    obtain ⟨hdue, hdone⟩ := h.2 p
    rw [hport]
    rw [State.desk_port] at hdue hdone
    constructor
    · cases ht : (s.port p).txn with
      | none => exact Port.responseDue_of_idle (by simp [Port.tick, ht])
      | some t =>
        simp only [Port.responseDue, ht] at hdue
        simpa only [Port.responseDue, Port.tick, ht, Option.map_some] using hdue
    · intro t ht
      obtain ⟨t', ht', rfl⟩ := Option.map_eq_some_iff.mp ht
      have hnot := hdone t' ht'
      simp only [Transaction.writeDone, Option.isNone_map] at hnot ⊢
      exact hnot⟩

/-- The order of the responses is that of the statements. -/
theorem State.desk_ordered_iff :
    s.desk.Form False (fun _ t => t.dir = .read → t.Ordered) ↔ ResponsesInForm s := by
  constructor
  · intro h p t ht hd
    have ho := h.txn p t ht hd
    exact ⟨ho.position, ho.ascending, fun x hx => ho.taken x.beat (List.mem_map_of_mem hx), ho.deferred⟩
  · refine fun h => .of_txn fun p t ht hd => ?_
    obtain ⟨hpos, hascending, htaken, hdef⟩ := h p t ht hd
    refine ⟨hpos, hascending, fun k hk => ?_, hdef⟩
    obtain ⟨x, hx, rfl⟩ := List.mem_map.mp hk
    exact htaken x hx

/-- The order of the responses stands within a command as between two. -/
theorem Desk.ordered_settled : Desk.Settled (Desk.Form False fun _ t => t.dir = .read → t.Ordered)
    (Desk.Form False fun _ t => t.dir = .read → t.Ordered) where
  weaken h := h
  settle _ h := State.settle_form Transaction.ordered_taken.toTxnKept h
  free _ h := State.freeMemory_form h
  tick _ h := State.takeTick_form Transaction.ordered_taken h

/-- Settles O56: each change an operation makes to a transaction keeps its size and the order of its responses, each change of
a segment list is followed by the arbiter, and a command ends with the return of what is due. -/
theorem everyStepKeepsThePortsInForm : Obligations.EveryStepKeepsThePortsInForm :=
  ⟨fun _ _ h ht => State.desk_portsInForm_iff.mp
      (Desk.portsInForm_settled.step Transaction.sized_taken (State.desk_portsInForm_iff.mpr h) ht),
    fun _ _ h ht => State.desk_ordered_iff.mp
      (Desk.ordered_settled.step Transaction.ordered_taken (State.desk_ordered_iff.mpr h) ht)⟩

end Forms

end Sys2Proof.Machine

namespace Sys2Proof.Machine

open Sys2Proof Sys2Proof.Safety

/-! ## What is due is returned (R23, R57) -/

section Settle

variable {s : State} {p : PortId}

/-- Two changes of one port, one after the other, are one. -/
theorem State.modPort_modPort (s : State) (p : PortId) (f g : Port → Port) :
    (s.modPort p f).modPort p g = s.modPort p fun port => g (f port) := by
  simp [State.modPort, State.port]

/-- Two changes of one transaction, one after the other, are one. -/
theorem State.modTxn_modTxn (s : State) (p : PortId) (f g : Transaction → Transaction) :
    (s.modTxn p f).modTxn p g = s.modTxn p fun t => g (f t) := by
  simp only [State.modTxn, State.modPort_modPort, Option.map_map]
  rfl

/-- A change of the transaction in progress, as the port's new record. -/
theorem State.modTxn_of_txn {t : Transaction} (h : (s.port p).txn = some t) (f : Transaction → Transaction) :
    s.modTxn p f = { s with ports := s.ports.set p { s.port p with txn := some (f t) } } := by
  simp [State.modTxn, State.modPort, h]

/-- R23, R24: after a return, a read with no response owed and every beat taken is over. -/
theorem State.endRead_eq (s : State) (p : PortId) :
    s.modPort p Port.endRead =
      if ∃ y ∈ (s.port p).txn, y.dir = .read ∧ y.responses = [] ∧ y.position = y.beats then
        { s with ports := s.ports.set p { s.port p with txn := none, segments := [], newestOpen := false } }
      else s := by
  cases ht : (s.port p).txn with
  | none =>
    rw [if_neg (by simp)]
    exact State.modPort_id (by simp [Port.endRead, ht])
  | some t =>
    by_cases hover : t.dir = .read ∧ t.responses = [] ∧ t.position = t.beats
    · rw [if_pos ⟨t, rfl, hover⟩]
      simp [State.modPort, Port.endRead, ht, hover]
    · rw [if_neg (by simpa using hover)]
      exact State.modPort_id (by simp only [Port.endRead, ht, if_neg hover])

/-- R23: where each port owes at most 16 responses, the first response due may be returned before the rest. -/
theorem State.settle_of_firstDue {x : ResponseSlot} {r : Response}
    (h : ∀ q t, (s.port q).txn = some t → t.owing ≤ 16) (hfirst : s.firstDue = some (p, x, r)) :
    s.settle = (s.returnResponse p x r).settle := by
  obtain ⟨hform, hless⟩ := State.returnResponse_owing (a := fun _ => 16) (.of_txn h) hfirst
  have hspent : (State.returnDue 63 (s.returnResponse p x r)).firstDue = none :=
    State.returnDue_spent hform (Nat.le_of_lt_succ (hless.trans_eq (by decide)))
  have hreturn : State.returnDue 64 s = State.returnDue 64 (s.returnResponse p x r) := by
    rw [State.returnDue_succ_of_spent hspent, State.returnDue, hfirst]
  simp only [State.settle, maxResponses, hreturn]

/-- R23: with no response due, what is returned is the completions. -/
theorem State.settle_of_no_response (h : ∀ q, (s.port q).responseDue = none) :
    s.settle = s.mapPorts fun _ port => port.completeWrite := by
  rw [State.settle, State.returnDue_of_firstDue_eq_none (State.firstDue_eq_none_iff.mpr h)]

/-- R23, R57: a write is done once every beat is accepted and disposed of, and none is outstanding. -/
theorem Transaction.writeDone_iff (t : Transaction) :
    t.writeDone = true ↔ t.dir = .write ∧ t.position = t.beats ∧ t.outstanding = 0 ∧ t.hold = none := by
  simp [Transaction.writeDone, and_assoc]

/-! ### The data of a read segment -/

/-- R23: the response `v` of beat `k` of port `p`, one beat of which is no longer outstanding. -/
theorem State.answer_after_beat (s : State) (p : PortId) (k : Nat) (v : Response) :
    (s.modTxn p fun t => { t with outstanding := t.outstanding - 1 }).modTxn p (fun t => t.answer k v) =
      { s with
        ports := s.ports.set p
          { s.port p with
            txn := (s.port p).txn.map fun t =>
              { t with
                outstanding := t.outstanding - 1
                responses := t.responses.map fun z => if z.beat = k then { z with value := some v } else z } } } := by
  rw [State.modTxn_modTxn]
  rfl

/-- R92: the result of a HOLD read: its data, or fill_word and, while the session runs, a MEMFAULT. -/
theorem State.holdResult_eq (s : State) (p : PortId) (y : SegmentBeat) (b : Binding) (data : Word) (r : BusStatus) :
    s.holdResult p y b data r =
      (if r = .error ∧ s.live b = true then
        State.memfault (s.modTxn p fun t => t.answer y.beat (okayResponse b.fillWord)) b.stream .consumer y.frame
      else s.modTxn p fun t => t.answer y.beat (okayResponse (if r = .okay then data else b.fillWord))) := by
  cases r
  · simp [State.holdResult]
  · by_cases hl : s.live b = true <;> simp [State.holdResult, hl]

/-- R85, R139, R140: one beat of a read segment on the memory port is answered as the segment's kind says. -/
theorem State.readResult_eq {g : Granted} {b : Binding} {r : BusStatus} {v : Response} (data : Word) (y : SegmentBeat)
    (s : State)
    (h : g.discarded = true ∧ v = { data := 0#32, status := .error }
      ∨ g.discarded = false ∧ (g.segment.kind = .plain ∨ g.segment.kind = .pass) ∧ v = { data := data, status := r }
      ∨ g.discarded = false ∧ g.segment.kind = .real ∧ g.segment.binding = some b
        ∧ v = { data := if r = .okay then data else 0#32, status := r }
      ∨ g.discarded = false ∧ g.segment.kind = .hold ∧ g.segment.binding = some b
        ∧ v = { data := if r = .okay then data else b.fillWord, status := .okay }) :
    s.readResult g y data r =
      if g.discarded = false ∧ g.segment.kind = .hold ∧ r = .error ∧ s.live b = true then
        State.memfault (s.modTxn g.owner fun t => t.answer y.beat v) b.stream .consumer y.frame
      else s.modTxn g.owner fun t => t.answer y.beat v := by
  rcases h with ⟨hd, rfl⟩ | ⟨hd, hk | hk, rfl⟩ | ⟨hd, hk, hb, rfl⟩ | ⟨hd, hk, hb, rfl⟩
  · simp [State.readResult, hd, errorResponse]
  · simp [State.readResult, hd, hk]
  · simp [State.readResult, hd, hk]
  · cases r <;> simp [State.readResult, hd, hk, hb, realResponse, okayResponse, errorResponse]
  · simp only [State.readResult, hd, hk, hb, State.holdResult_eq, okayResponse, Bool.false_eq_true, if_false, true_and]
    by_cases hfault : r = .error ∧ s.live b = true
    · simp [hfault]
    · rw [if_neg hfault, if_neg hfault]

theorem exec_memoryReadData (data : Word) (r : BusStatus) (s : State) :
    exec (.memoryReadData data r) s = execMemoryReadData data r s := rfl

/-- R139: a beat of the read segment on the memory port: its response is given its value, what is due is returned, and after
the last beat the memory port is FREE. -/
theorem exec_memoryReadData_of_segment {g : Granted} {y : SegmentBeat} {rest : List SegmentBeat} (data : Word)
    (r : BusStatus) (hm : s.memory = some g) (hdir : g.segment.dir = .read)
    (hdrop : g.segment.beats.drop g.answered = y :: rest) {x : State}
    (hx : State.readResult (State.modTxn { s with memory := some { g with answered := g.answered + 1 } } g.owner
      fun t => { t with outstanding := t.outstanding - 1 }) g y data r = x) :
    exec (.memoryReadData data r) s =
      .next (if g.answered + 1 < g.segment.beats.length then x.settle else x.settle.freeMemory) := by
  rw [exec_memoryReadData]
  simp only [execMemoryReadData, hm, hdir, if_true, hdrop, hx, State.endReadSegment]

/-! ### The responses and completions due -/

/-- R23: what the return of the response that heads a port's list leaves of the port. -/
theorem State.modPort_returnHead {t : Transaction} {x : ResponseSlot} {rest : List ResponseSlot} (r : Response)
    (ht : (s.port p).txn = some t) (hrest : t.responses = x :: rest) :
    s.modPort p (·.returnHead r) =
      { s with
        ports := s.ports.set p
          { s.port p with returned := (s.port p).returned ++ [r], txn := some { t with responses := rest } } } := by
  simp [State.modPort, Port.returnHead, ht, hrest]

/-- R23, R82: the return of a response that is no REAL beat's reaches no path. -/
theorem State.returnResponse_of_unmarked {t : Transaction} {x : ResponseSlot} (r : Response)
    (ht : (s.port p).txn = some t) (h : x.mark = none ∨ ∀ c ∈ t.cls, consumerBinding c = none) :
    s.returnResponse p x r = (s.modPort p (·.returnHead r)).modPort p Port.endRead := by
  simp only [State.returnResponse, ht, Option.bind_some]
  split
  · next b m hcls hmark =>
    rcases h with h | h
    · simp [h] at hmark
    · simpa [consumerBinding] using h _ hcls
  · rfl

/-- R23, R82: the return of a REAL beat reaches the Consumer Path. -/
theorem State.returnResponse_of_real {t : Transaction} {x : ResponseSlot} {b : Binding} {m : RealMark} (r : Response)
    (ht : (s.port p).txn = some t) (hcls : t.cls = some (.consumer b)) (hmark : x.mark = some m) :
    s.returnResponse p x r = ((s.modPort p (·.returnHead r)).realReturned b m r).modPort p Port.endRead := by
  simp only [State.returnResponse, ht, Option.bind_some, hcls, hmark]
  rfl

/-- Settles O48: the result of a read beat by the kind of its segment; the returns one by one, for which the number allowed
is enough; the completions; and that none is left. -/
theorem readDataGoesWhereItsKindSays : Obligations.ReadDataGoesWhereItsKindSays := by
  refine ⟨?data, ?response, ?completion, ?nothing⟩
  case data =>
    rintro s x g y rest b data r v hm hdir hdrop hv rfl
    refine exec_memoryReadData_of_segment data r hm hdir hdrop ?_
    rw [State.readResult_eq data y _ hv, State.answer_after_beat]
    have hlive : (State.modTxn { s with memory := some { g with answered := g.answered + 1 } } g.owner
      fun t => { t with outstanding := t.outstanding - 1 }).live b = s.live b := rfl
    rw [hlive]
    split
    · rfl
    · rfl
  case response =>
    rintro s u v p t x rest r b m hform ht hrest hx hlow rfl hv
    have hdue := Port.responseDue_eq_some_iff.mpr ⟨t, rest, ht, hrest, hx⟩
    rw [State.settle_of_firstDue (fun q y hy => Transaction.owing_le (hform q y hy)) (State.firstDue_of_lowest hdue hlow)]
    rcases hv with ⟨hmark, rfl⟩ | ⟨hcls, hmark, rfl⟩
    · rw [State.returnResponse_of_unmarked r ht hmark, State.modPort_returnHead r ht hrest, State.endRead_eq]
    · rw [State.returnResponse_of_real r ht hcls hmark, State.modPort_returnHead r ht hrest, State.endRead_eq]
  case completion =>
    intro s hdue
    rw [State.settle_of_no_response hdue]
    refine ⟨rfl, fun p => ⟨fun ht => ?_, fun t ht => ⟨fun hw hp ho hh => ?_, fun hnot => ?_⟩⟩⟩
    · rw [State.port_mapPorts]
      exact Port.completeWrite_of_not_done (by simp [ht])
    · rw [State.port_mapPorts]
      exact Port.completeWrite_of_done ht ((Transaction.writeDone_iff t).mpr ⟨hw, hp, ho, hh⟩)
    · rw [State.port_mapPorts]
      refine Port.completeWrite_of_not_done fun t' ht' => ?_
      obtain rfl := Option.some.inj (ht.symm.trans ht')
      refine Bool.eq_false_iff.mpr fun hd => ?_
      obtain ⟨hw, hp, ho, hh⟩ := (Transaction.writeDone_iff t).mp hd
      simp [hw, hp, ho, hh] at hnot
  case nothing =>
    exact fun s hform => State.settle_nothingDue fun q t ht => Transaction.owing_le (hform q t ht)

end Settle

end Sys2Proof.Machine

namespace Sys2Proof.Machine

open Sys2Proof Sys2Proof.Safety

/-! ## Classification (R28, R29) -/

section Classification

variable {s : State} {i : StreamId} {first last : Nat}

/-- R3: the body of a descriptor in form has a first byte that is not after its last. -/
theorem base_le_bodyLast {d : Descriptor} (h : DescriptorInForm d) : d.base.toNat ≤ d.bodyLast.toNat := by
  obtain ⟨⟨hchannels, -⟩, ⟨hsample, -⟩, ⟨hdepth, -⟩, hframe, -, -, -, hlast, -⟩ := h
  have hbytes : 1 ≤ d.frameBytes := hframe ▸ Nat.mul_pos hchannels (by omega)
  have hbody : 1 ≤ d.depth * d.frameBytes := Nat.mul_pos (by omega) hbytes
  omega

/-- R29: a range has a byte in a window where the two ranges meet. -/
theorem State.touchesWindow_iff (htable : TableInForm s) (hrange : first ≤ last) (j : StreamId) :
    s.touchesWindow first last j = true ↔ ∃ a, first ≤ a ∧ a ≤ last ∧ InWindow s a j := by
  simp only [State.touchesWindow, Stream.hasWindow, rangesMeet, Bool.and_eq_true, bne_iff_ne, decide_eq_true_eq]
  constructor
  · rintro ⟨hopen, hlow, hhigh⟩
    have hbody := base_le_bodyLast (htable.1 j hopen)
    exact ⟨max first (s.stream j).desc.base.toNat, by omega, by omega, hopen, by omega, by omega⟩
  · rintro ⟨a, hfirst, hlast, hopen, hlow, hhigh⟩
    exact ⟨hopen, by omega, by omega⟩

/-- R16, R29: a byte lies in the window of one stream at most. -/
theorem window_unique (htable : TableInForm s) {a : Nat} {j k : StreamId} (hj : InWindow s a j) (hk : InWindow s a k) :
    j = k := by
  by_contra hne
  obtain ⟨hjo, hjb, hjl⟩ := hj
  obtain ⟨hko, hkb, hkl⟩ := hk
  have := htable.2 j k hne hjo hko
  omega

/-- R29: all bytes of a range that meets no other window lie in one window where the body covers the range. -/
theorem covers_iff (hrange : first ≤ last) (hopen : (s.stream i).state ≠ .closed) :
    (s.stream i).desc.covers first last = true ↔ ∀ a, first ≤ a → a ≤ last → InWindow s a i := by
  simp only [Descriptor.covers, Bool.and_eq_true, decide_eq_true_eq]
  constructor
  · rintro ⟨hlow, hhigh⟩ a hfirst hlast
    exact ⟨hopen, hlow.trans hfirst, hlast.trans hhigh⟩
  · exact fun h => ⟨(h first le_rfl hrange).2.1, (h last hrange le_rfl).2.2⟩

/-- The only stream that meets a condition is the one the list of streams keeps. -/
theorem filter_allStreams_eq_singleton {f : StreamId → Bool} (h : ∀ j, f j = true ↔ j = i) :
    allStreams.filter f = [i] := by
  have hf : f = fun j => decide (j = i) := funext fun j => by
    rw [Bool.eq_iff_iff, h, decide_eq_true_eq]
  subst hf
  revert i
  decide

/-- R29: a range with no byte in a window is plain. -/
theorem State.classify_of_untouched {p : PortId} {dir : Dir} {addr : Word} {beats : Nat}
    (h : ∀ j, s.touchesWindow addr.toNat (addr.toNat + 4 * beats - 1) j = false) :
    s.classify p dir addr beats = .plain := by
  have hnil : allStreams.filter (s.touchesWindow addr.toNat (addr.toNat + 4 * beats - 1)) = [] :=
    List.filter_eq_nil_iff.mpr fun j _ => by simp [h j]
  simp only [State.classify, hnil]

/-- R29: a range whose bytes all lie in the window of stream `i` takes its class there. -/
theorem State.classify_of_covered (htable : TableInForm s) {p : PortId} {dir : Dir} {addr : Word} {beats : Nat}
    (hrange : addr.toNat ≤ addr.toNat + 4 * beats - 1)
    (h : ∀ a, addr.toNat ≤ a → a ≤ addr.toNat + 4 * beats - 1 → InWindow s a i) :
    s.classify p dir addr beats = s.classInWindow i p dir := by
  have honly (j : StreamId) :
      s.touchesWindow addr.toNat (addr.toNat + 4 * beats - 1) j = true ↔ j = i := by
    rw [State.touchesWindow_iff htable hrange]
    constructor
    · rintro ⟨a, hfirst, hlast, hj⟩
      exact window_unique htable hj (h a hfirst hlast)
    · rintro rfl
      exact ⟨addr.toNat, le_rfl, hrange, h _ le_rfl hrange⟩
  have hcovers := (covers_iff hrange (h _ le_rfl hrange).1).mpr h
  simp only [State.classify, filter_allStreams_eq_singleton honly, hcovers, if_true]

/-- R29: a range with a byte in a window, that does not lie in one window whole, is a straddle. -/
theorem State.classify_of_straddling (htable : TableInForm s) {p : PortId} {dir : Dir} {addr : Word} {beats : Nat}
    (hrange : addr.toNat ≤ addr.toNat + 4 * beats - 1)
    (htouch : ∃ a j, addr.toNat ≤ a ∧ a ≤ addr.toNat + 4 * beats - 1 ∧ InWindow s a j)
    (hnot : ∀ j, ¬ ∀ a, addr.toNat ≤ a → a ≤ addr.toNat + 4 * beats - 1 → InWindow s a j) :
    s.classify p dir addr beats = .straddle := by
  simp only [State.classify]
  split
  · next hnil =>
    obtain ⟨a, j, hfirst, hlast, hj⟩ := htouch
    have hmeets := (State.touchesWindow_iff htable hrange j).mpr ⟨a, hfirst, hlast, hj⟩
    exact absurd hmeets (List.filter_eq_nil_iff.mp hnil j (mem_allStreams j))
  · next i hone =>
    have hmem : i ∈ allStreams.filter (s.touchesWindow addr.toNat (addr.toNat + 4 * beats - 1)) := by simp [hone]
    obtain ⟨a, -, -, hopen, -⟩ := (State.touchesWindow_iff htable hrange i).mp (List.mem_filter.mp hmem).2
    rw [if_neg fun hc => hnot i ((covers_iff hrange hopen).mp hc)]
  · rfl

/-- R29: the class in a window, by the two ports and the treatment of observers. -/
theorem State.classInWindow_eq (s : State) (i : StreamId) (p : PortId) (dir : Dir) :
    s.classInWindow i p dir =
      if dir = .write ∧ p = (s.stream i).desc.producerPort then .producer (s.binding i)
      else if dir = .read ∧ p = (s.stream i).desc.consumerPort then .consumer (s.binding i)
      else if (s.stream i).desc.observerPolicy = .pass then .observerPass (s.binding i)
      else .observerRefuse (s.binding i) := by
  cases h : (s.stream i).desc.observerPolicy <;> simp [State.classInWindow, h]

/-- Settles O28: the windows a range meets are those with a byte of it, and no byte lies in two. -/
theorem classFollowsTheTestsOfTheRange : Obligations.ClassFollowsTheTestsOfTheRange := by
  rintro s p dir addr beats last i htable hbeats rfl
  have hrange : addr.toNat ≤ addr.toNat + 4 * beats - 1 := by omega
  refine ⟨fun hout => ?plain, fun htouch hsplit => ?straddle, fun hin => ?within⟩
  case plain =>
    refine State.classify_of_untouched fun j => Bool.eq_false_iff.mpr fun hmeets => ?_
    obtain ⟨a, hfirst, hlast, hj⟩ := (State.touchesWindow_iff htable hrange j).mp hmeets
    exact hout a j hfirst hlast hj
  case straddle =>
    refine State.classify_of_straddling htable hrange htouch fun j hall => ?_
    rcases hsplit with ⟨a, hfirst, hlast, hno⟩ | ⟨a, b, k, l, ha, ha', hb, hb', hkl, hk, hl⟩
    · exact hno j (hall a hfirst hlast)
    · exact hkl ((window_unique htable hk (hall a ha ha')).trans (window_unique htable (hall b hb hb') hl))
  case within =>
    rw [State.classify_of_covered htable hrange hin, State.classInWindow_eq]

end Classification

end Sys2Proof.Machine

namespace Sys2Proof.Machine

open Sys2Proof Sys2Proof.Safety

/-! ## Returns that reach no path (R23)

A return reaches the Consumer Path only where it is a REAL beat's (R82). Where a port's responses are not, what is due on
it is a matter of that port alone: `Port.flush`. -/

/-- R23: the port after the known responses that head this list, the responses it owes, are returned one by one. -/
def Port.returnKnown : List ResponseSlot → Port → Port
  | [], port => port
  | x :: rest, port =>
      match x.value with
      | some r => Port.returnKnown rest (port.returnHead r).endRead
      | none => port

/-- R23: the port after every response due on it is returned. -/
def Port.flush (port : Port) : Port :=
  match port.txn with
  | some t => port.returnKnown t.responses
  | none => port

/-- R82: no response the port owes is a consumer's REAL beat. -/
def Port.Unmarked (port : Port) : Prop :=
  ∀ t ∈ port.txn, (∀ x ∈ t.responses, x.mark = none) ∨ ∀ c ∈ t.cls, consumerBinding c = none

/-- What is due on each port is a matter of that port alone. -/
def State.ReturnsLocal (s : State) : Prop := ∀ q, (s.port q).responseDue = none ∨ (s.port q).Unmarked

section Flush

variable {s : State} {p : PortId} {port : Port} {t : Transaction}

/-- R24: only a read with no response owed and every beat taken ends with a return. -/
theorem Port.endRead_of_txn (ht : port.txn = some t) :
    port.endRead =
      if t.dir = .read ∧ t.responses = [] ∧ t.position = t.beats then
        { port with txn := none, segments := [], newestOpen := false }
      else port := by
  by_cases hover : t.dir = .read ∧ t.responses = [] ∧ t.position = t.beats <;> simp [Port.endRead, ht, hover]

theorem Port.endRead_cases (port : Port) :
    port.endRead = port ∨ port.endRead = { port with txn := none, segments := [], newestOpen := false } := by
  cases ht : port.txn with
  | none => exact .inl (by simp [Port.endRead, ht])
  | some t =>
    rw [Port.endRead_of_txn ht]
    split
    · exact .inr rfl
    · exact .inl rfl

theorem Port.flush_of_txn (ht : port.txn = some t) : port.flush = port.returnKnown t.responses := by
  cases port; subst ht; rfl

/-- R23: a port with no response due has none to return. -/
theorem Port.flush_of_not_due (h : port.responseDue = none) : port.flush = port := by
  cases ht : port.txn with
  | none => simp [Port.flush, ht]
  | some t =>
    rw [Port.flush_of_txn ht]
    cases hx : t.responses with
    | nil => rfl
    | cons x rest =>
      cases hv : x.value with
      | none => simp [Port.returnKnown, hv]
      | some r => simp [Port.responseDue_eq_some_iff.mpr ⟨t, rest, ht, hx, hv⟩] at h

/-- R23: one return on a port leaves the rest of those due to be made. -/
theorem Port.flush_step {x : ResponseSlot} {r : Response} (h : port.responseDue = some (x, r)) :
    (port.returnHead r).endRead.flush = port.flush := by
  obtain ⟨t, rest, ht, hrest, hv⟩ := Port.responseDue_eq_some_iff.mp h
  have hhead : (port.returnHead r).txn = some { t with responses := rest } := by simp [Port.returnHead, ht, hrest]
  rw [Port.flush_of_txn ht, hrest, Port.returnKnown]
  simp only [hv]
  rw [Port.endRead_of_txn hhead]
  split
  · next hover =>
    obtain rfl : rest = [] := hover.2.1
    rfl
  · exact Port.flush_of_txn hhead

theorem Port.Unmarked.step (h : port.Unmarked) (r : Response) : (port.returnHead r).endRead.Unmarked := by
  have hhead : (port.returnHead r).Unmarked := fun t ht => by
    obtain ⟨t', ht', rfl⟩ := Option.map_eq_some_iff.mp ht
    exact (h t' ht').imp_left fun hm x hx => hm x (List.mem_of_mem_drop hx)
  rcases (port.returnHead r).endRead_cases with he | he
  · rwa [he]
  · rw [he]
    exact fun _ ht => by simp at ht

/-- R23, R82: a response due on an unmarked port is returned by a change of the port alone. -/
theorem State.returnResponse_of_local {x : ResponseSlot} {r : Response} (h : s.ReturnsLocal)
    (hdue : (s.port p).responseDue = some (x, r)) :
    s.returnResponse p x r = s.modPort p fun port => (port.returnHead r).endRead := by
  obtain ⟨t, rest, ht, hrest, -⟩ := Port.responseDue_eq_some_iff.mp hdue
  have hmark := ((h p).resolve_left (by simp [hdue])) t ht
  rw [State.returnResponse_of_unmarked r ht (hmark.imp_left fun hm => hm x (by simp [hrest])), State.modPort_modPort]

/-- A change of one port that a change of every port does not see. -/
theorem State.mapPorts_modPort {f g : Port → Port} (h : g (f (s.port p)) = g (s.port p)) :
    (s.modPort p f).mapPorts (fun _ => g) = s.mapPorts fun _ => g := by
  have hports : ((s.modPort p f).mapPorts fun _ => g).ports = (s.mapPorts fun _ => g).ports :=
    State.ports_ext fun q => by
      by_cases hq : q = p
      · subst hq; simp [h]
      · simp [hq]
  simp only [State.modPort, State.mapPorts] at hports ⊢
  rw [hports]

/-- R23: local returns leave those still due to be made, and stay local. -/
theorem State.returnDue_mapPorts_flush (h : s.ReturnsLocal) (n : Nat) :
    (State.returnDue n s).mapPorts (fun _ => Port.flush) = s.mapPorts fun _ => Port.flush := by
  induction n generalizing s with
  | zero => rfl
  | succ n ih =>
    rw [State.returnDue]
    split
    · rfl
    · next p x r hfirst =>
      have hdue := State.responseDue_of_firstDue hfirst
      rw [State.returnResponse_of_local h hdue, ih, State.mapPorts_modPort (Port.flush_step hdue)]
      intro q
      by_cases hq : q = p
      · subst hq
        rw [State.port_modPort_self]
        exact .inr (((h q).resolve_left (by simp [hdue])).step r)
      · rw [State.port_modPort_ne _ hq]
        exact h q

/-- R23: where the returns are local, what is due is returned on each port for itself. -/
theorem State.settle_of_local (h : s.ReturnsLocal) (howes : ∀ q t, (s.port q).txn = some t → t.owing ≤ 16) :
    s.settle = s.mapPorts fun _ port => port.flush.completeWrite := by
  have hspent := State.firstDue_eq_none_iff.mp
    (State.returnDue_spent (a := fun _ => 16) (n := maxResponses) (.of_txn howes) (by decide))
  have hreturn : State.returnDue maxResponses s = s.mapPorts fun _ => Port.flush := by
    rw [← State.returnDue_mapPorts_flush h maxResponses]
    exact (State.mapPorts_id fun q => Port.flush_of_not_due (hspent q)).symm
  rw [State.settle, hreturn]
  rfl

/-- R23: a port with nothing due keeps its record. -/
theorem Port.flush_completeWrite_of_nothingDue (h : port.responseDue = none ∧ ∀ t ∈ port.txn, t.writeDone = false) :
    port.flush.completeWrite = port := by
  rw [Port.flush_of_not_due h.1, Port.completeWrite_of_not_done h.2]

@[simp] theorem State.port_set_self (s : State) (p : PortId) (x : Port) :
    ({ s with ports := s.ports.set p x } : State).port p = x :=
  State.port_modPort_self s p fun _ => x

theorem State.port_set_ne {q : PortId} (hq : q ≠ p) (x : Port) :
    ({ s with ports := s.ports.set p x } : State).port q = s.port q :=
  State.port_modPort_ne s hq fun _ => x

/-- R23: where nothing was due and port `p` alone has changed, what is due is returned there. -/
theorem State.settle_set {x : Port} (h : PortsInForm s) (hlocal : x.responseDue = none ∨ x.Unmarked)
    (howes : ∀ t ∈ x.txn, t.owing ≤ 16) :
    State.settle { s with ports := s.ports.set p x } = { s with ports := s.ports.set p x.flush.completeWrite } := by
  obtain ⟨htxn, -, -, hdue⟩ := h
  rw [State.settle_of_local]
  · have hports : (State.mapPorts { s with ports := s.ports.set p x } fun _ port => port.flush.completeWrite).ports
        = ({ s with ports := s.ports.set p x.flush.completeWrite } : State).ports :=
      State.ports_ext fun q => by
        by_cases hq : q = p
        · subst hq; simp
        · simp [State.port_set_ne hq, Port.flush_completeWrite_of_nothingDue (hdue q)]
    simp only [State.mapPorts] at hports ⊢
    rw [hports]
  · intro q
    by_cases hq : q = p
    · subst hq
      rwa [State.port_set_self]
    · rw [State.port_set_ne hq]
      exact .inl (hdue q).1
  · intro q t ht
    by_cases hq : q = p
    · subst hq
      exact howes t (by rwa [State.port_set_self] at ht)
    · exact Transaction.owing_le ((htxn q).1 t (by rwa [State.port_set_ne hq] at ht))

/-- R23: a read with every response it owes known, and every beat taken, is over: the values are returned in their order. -/
theorem Port.flush_of_known {vs : List Response} (ht : port.txn = some t) (hdir : t.dir = .read)
    (hpos : t.position = t.beats) (hne : vs ≠ []) (hvs : t.responses.map (·.value) = vs.map some) :
    port.flush =
      { port with txn := none, segments := [], newestOpen := false, returned := port.returned ++ vs } := by
  induction vs generalizing port t with
  | nil => exact absurd rfl hne
  | cons r vs ih =>
    obtain ⟨x, rest, hrest, hx, hvs⟩ := List.map_eq_cons_iff.mp hvs
    have hhead : (port.returnHead r).txn = some { t with responses := rest } := by simp [Port.returnHead, ht, hrest]
    rw [← Port.flush_step (Port.responseDue_eq_some_iff.mpr ⟨t, rest, ht, hrest, hx⟩), Port.endRead_of_txn hhead]
    cases vs with
    | nil =>
      obtain rfl : rest = [] := by simpa using hvs
      simp [hdir, hpos, Port.flush, Port.returnHead]
    | cons r' vs =>
      have hmore : rest ≠ [] := by rintro rfl; simp at hvs
      rw [if_neg fun hover => hmore hover.2.1, ih hhead hdir hpos (by simp) hvs]
      simp [Port.returnHead]

end Flush

end Sys2Proof.Machine

namespace Sys2Proof.Machine

open Sys2Proof Sys2Proof.Safety

/-! ## Requests and write beats (R21, R22, R28) -/

section Requests

variable {s : State} {p : PortId} {t : Transaction} {cls : TransactionClass}

/-! ### Write beats outside the paths -/

theorem exec_writeBeat_of_due (h : WriteBeatDue s p t) (data : Word) (enables : BitVec 4) :
    exec (.writeBeat p data enables) s = .next (s.acceptWrite p t data enables).settle := by
  obtain ⟨ht, hdir, hhold, hpos⟩ := h
  have hexec : exec (.writeBeat p data enables) s = execWriteBeat p data enables s := rfl
  simp [hexec, execWriteBeat, ht, Transaction.acceptsWrite, hdir, hhold, hpos]

/-- R31, R34, R38: a write beat of a refused class is discarded. -/
theorem State.disposeWrite_of_refused (h : cls.refused = true) (s : State) (p : PortId) (t : Transaction) (data : Word)
    (enables : BitVec 4) :
    s.disposeWrite p t cls data enables = s.modTxn p fun t => { t with anyError := true } := by
  cases cls with
  | straddle => rfl
  | observerRefuse b => rfl
  | overRange => rfl
  | plain => simp [TransactionClass.refused] at h
  | observerPass b => simp [TransactionClass.refused] at h
  | producer b => simp [TransactionClass.refused] at h
  | consumer b => simp [TransactionClass.refused] at h

/-- R136: a write beat of a class that forms one segment of the whole transaction is carried in it. -/
theorem State.disposeWrite_of_carried {b : Binding} (h : cls = .plain ∨ cls = .observerPass b) (s : State) (p : PortId)
    (t : Transaction) (data : Word) (enables : BitVec 4) :
    s.disposeWrite p t cls data enables = s.deliverData p t.position data enables := by
  rcases h with rfl | rfl <;> rfl

theorem State.deliverData_port_self (s : State) (p : PortId) (k : Nat) (data : Word) (enables : BitVec 4) :
    (s.deliverData p k data enables).port p =
      { s.port p with
        segments := (s.port p).segments.map fun g => g.setData k data enables
        txn := (s.port p).txn.map fun t => { t with outstanding := t.outstanding + 1 } } := by
  simp [State.deliverData, State.modPort, State.port]

theorem State.deliverData_port_ne {q : PortId} (hq : q ≠ p) (k : Nat) (data : Word) (enables : BitVec 4) :
    (s.deliverData p k data enables).port q = s.port q := by
  have hv : p.val ≠ q.val := fun e => hq (Fin.ext e.symm)
  simp [State.deliverData, State.modPort, State.port, hv]

/-- R21, R23: a write owes no response. -/
theorem Port.responseDue_of_no_responses {port : Port} (ht : port.txn = some t) (h : t.responses = []) :
    port.responseDue = none := by
  simp [Port.responseDue, ht, h]

/-- Settles O30: a discarded beat changes its transaction alone, which may then be complete; a carried one is outstanding, so
that nothing is due. -/
theorem writeBeatsOutsideThePathsAreDiscardedOrCarried : Obligations.WriteBeatsOutsideThePathsAreDiscardedOrCarried := by
  refine ⟨?discarded, ?carried⟩
  case discarded =>
    intro s p t b data enables hform hdue hcls
    obtain ⟨ht, hdir, hhold, hpos⟩ := id hdue
    obtain ⟨⟨-, hbeats⟩, -, -, -, hresponses⟩ := (hform.1 p).1 t ht
    obtain ⟨cls, hcls, hrefused⟩ : ∃ cls, t.cls = some cls ∧ cls.refused = true := by
      rcases hcls with h | h | h <;> exact ⟨_, h, rfl⟩
    rw [exec_writeBeat_of_due hdue, State.acceptWrite_of_classed hcls, State.disposeWrite_of_refused hrefused,
      State.modTxn_modTxn, State.modTxn_of_txn ht]
    have hnone : Port.responseDue
        { s.port p with txn := some { t with position := t.position + 1, anyError := true } } = none :=
      Port.responseDue_of_no_responses rfl (hresponses hdir)
    rw [State.settle_set hform (.inl hnone), Port.flush_of_not_due hnone]
    · split
      · next hdone =>
        rw [Port.completeWrite_of_done (t := { t with position := t.position + 1, anyError := true }) rfl
          ((Transaction.writeDone_iff _).mpr ⟨hdir, hdone.1, hdone.2, hhold⟩)]
        rfl
      · next hnot =>
        rw [Port.completeWrite_of_not_done]
        rintro t' ⟨⟩
        refine Bool.eq_false_iff.mpr fun hd => ?_
        obtain ⟨-, hp, ho, -⟩ := (Transaction.writeDone_iff _).mp hd
        exact hnot ⟨hp, ho⟩
    · rintro t' ⟨⟩
      simp only [Transaction.owing, hresponses hdir, List.length_nil]
      omega
  case carried =>
    intro s p t b data enables hform hdue hcls
    obtain ⟨ht, hdir, hhold, hpos⟩ := id hdue
    obtain ⟨htxn, -, -, hnothing⟩ := hform
    obtain ⟨-, -, -, -, hresponses⟩ := (htxn p).1 t ht
    obtain ⟨cls, hcls, hcarried⟩ : ∃ cls, t.cls = some cls ∧ (cls = .plain ∨ cls = .observerPass b) := by
      rcases hcls with h | h
      · exact ⟨_, h, .inl rfl⟩
      · exact ⟨_, h, .inr rfl⟩
    rw [exec_writeBeat_of_due hdue, State.acceptWrite_of_classed hcls, State.disposeWrite_of_carried hcarried,
      State.settle_of_nothingDue, State.modTxn_of_txn ht]
    · simp [State.deliverData, State.modPort, State.port, Segment.setData]
    · intro q
      by_cases hq : q = p
      · subst hq
        rw [State.deliverData_port_self, State.port_modTxn_self]
        refine ⟨Port.responseDue_of_no_responses (t := { t with position := t.position + 1, outstanding := t.outstanding + 1 })
          (by simp [ht]) (hresponses hdir), ?_⟩
        simp [ht, Transaction.writeDone]
      · rw [State.deliverData_port_ne hq, State.port_modTxn_ne _ hq]
        exact hnothing q

end Requests

end Sys2Proof.Machine

namespace Sys2Proof.Machine

open Sys2Proof Sys2Proof.Safety

section Classes

variable {s : State} {p : PortId} {t : Transaction} {cls : TransactionClass} {addr : Word} {beats : Nat}

/-! ### A transaction takes its class -/

/-- R28: a transaction that forms no segment takes its class, and its notice is posted. -/
theorem State.assignClass_of_no_segment {x : Transaction} (hx : (s.port p).txn = some x)
    (h : cls.whole t.dir t.addr t.beats = none) :
    s.assignClass p cls t =
      State.classificationNotice
        { s with ports := s.ports.set p { s.port p with txn := some { x with cls := some cls } } } p t.addr cls := by
  unfold State.assignClass
  rw [h, State.modTxn_of_txn hx]

/-- R30, R33, R136: a plain or PASS transaction takes its class, and its one segment is ready. -/
theorem State.assignClass_of_segment {x : Transaction} {b : Binding} {kind : SegmentKind} (hx : (s.port p).txn = some x)
    (h : cls = .plain ∧ kind = .plain ∨ cls = .observerPass b ∧ kind = .pass) :
    s.assignClass p cls t =
      State.arbitrate { s with
        ports := s.ports.set p
          { s.port p with
            txn := some { x with cls := some cls }
            newestOpen := false
            segments := (s.port p).segments ++
              [wholeSegment kind t.dir t.addr t.beats (if kind = .pass then some b else none)] } } := by
  rcases h with ⟨rfl, rfl⟩ | ⟨rfl, rfl⟩ <;>
    simp [State.assignClass, TransactionClass.whole, State.classificationNotice, State.forwardWhole,
      State.modTxn_of_txn hx, State.modPort, State.port]

/-- R34: the address of a word with the number of a port in its two lowest bits. -/
theorem refusedValue_of_aligned (h : addr.toNat % 4 = 0) (p : PortId) :
    refusedValue addr p = BitVec.ofNat 32 (addr.toNat + p.val) := by
  have hor : addr.toNat ||| p.val = addr.toNat + p.val := by
    have := Nat.two_pow_add_eq_or_of_lt (show p.val < 2 ^ 2 by omega) (addr.toNat / 4)
    rw [show 2 ^ 2 * (addr.toNat / 4) = addr.toNat by omega] at this
    exact this.symm
  refine BitVec.eq_of_toNat_eq ?_
  rw [refusedValue, BitVec.toNat_or, BitVec.toNat_ofNat, BitVec.toNat_ofNat, Nat.mod_eq_of_lt (by omega : p.val < 2 ^ 32),
    hor, Nat.mod_eq_of_lt (by omega)]

/-! ### The first data beat of a write -/

/-- R28: the first data beat of a write is taken as a beat of the class it gives. -/
theorem exec_writeBeat_of_unclassed (h : WriteBeatDue s p t) (hcls : t.cls = none) (data : Word) (enables : BitVec 4) :
    exec (.writeBeat p data enables) s =
      exec (.writeBeat p data enables) (s.assignClass p (s.classify p .write t.addr t.beats) t) := by
  obtain ⟨ht, hdir, hhold, hpos⟩ := id h
  have hdue : WriteBeatDue (s.assignClass p (s.classify p .write t.addr t.beats) t) p
      { t with cls := some (s.classify p .write t.addr t.beats) } :=
    ⟨by rw [State.assignClass_port_txn, ht]; rfl, hdir, hhold, hpos⟩
  rw [exec_writeBeat_of_due h, State.acceptWrite_of_unclassed hcls, exec_writeBeat_of_due hdue,
    State.acceptWrite_of_classed rfl]
  rfl

/-- Settles O29: the class is assigned and its notice or its segment made, whatever the beat, which is then taken. -/
theorem firstDataBeatClassifiesTheWrite : Obligations.FirstDataBeatClassifiesTheWrite := by
  intro s p t data enables b hdue hcls haligned
  rw [exec_writeBeat_of_unclassed hdue hcls]
  obtain ⟨ht, hdir, -, -⟩ := hdue
  refine ⟨fun h => ?_, fun h => ?_, fun h => ?_, fun kind h => ?_⟩
  · rw [h, State.assignClass_of_no_segment ht rfl]
    rfl
  · rw [h, State.assignClass_of_no_segment ht rfl]
    rfl
  · rw [h, State.assignClass_of_no_segment ht rfl, State.classificationNotice, refusedValue_of_aligned haligned]
    rfl
  · rw [State.assignClass_of_segment ht h, hdir]
    rfl

/-! ### Requests -/

/-- R21: the record of a port that has just taken the request `t`. -/
def Port.taken (t : Transaction) : Port :=
  { txn := some t, segments := [], newestOpen := false, returned := [], completion := none }

theorem exec_requestTaken (p : PortId) (dir : Dir) (addr : Word) (beats : Nat) (s : State) :
    exec (.requestTaken p dir addr beats) s = execRequestTaken p dir addr beats s := rfl

/-- R21: a request offered to a port in use, or while PORn is low, stays offered. -/
theorem exec_requestTaken_of_not_accepted (h : (s.port p).txn ≠ none ∨ s.porHigh = false) (dir : Dir) :
    exec (.requestTaken p dir addr beats) s = .next s := by
  have hnot : s.acceptsRequest p = false := by
    rcases h with h | h
    · obtain ⟨t, ht⟩ := Option.ne_none_iff_exists'.mp h
      simp [State.acceptsRequest, ht]
    · simp [State.acceptsRequest, h]
  simp [exec_requestTaken, execRequestTaken, hnot]

/-- R21: an IDLE port takes a request while PORn is high. -/
theorem exec_requestTaken_of_idle (ht : (s.port p).txn = none) (hpor : s.porHigh = true) (haligned : addr.toNat % 4 = 0)
    (hlow : 1 ≤ beats) (hhigh : beats ≤ 16) (dir : Dir) :
    exec (.requestTaken p dir addr beats) s = .next (s.acceptRequest p dir addr beats).settle := by
  simp [exec_requestTaken, execRequestTaken, State.acceptsRequest, ht, hpor, wordAligned, burstLengthOk, haligned, hlow, hhigh]

/-- R21: a request of at least one beat at a word address does not pass 0xFFFF_FFFF where its last byte does not. -/
theorem overRange_eq (haligned : addr.toNat % 4 = 0) (hlow : 1 ≤ beats) :
    overRange addr beats = decide (0x100000000 < addr.toNat + 4 * beats) := by
  rw [overRange, beatAddress, decide_eq_decide]
  norm_num
  omega

/-- R21: a write request is taken with no class, unless it would pass 0xFFFF_FFFF. -/
theorem State.acceptRequest_write (s : State) (p : PortId) (addr : Word) (beats : Nat) :
    s.acceptRequest p .write addr beats =
      { s with
        ports := s.ports.set p (Port.taken
          { Transaction.start .write addr beats with
            cls := if addr.toNat + 4 * (beats - 1) < 0x100000000 then none else some .overRange }) } := by
  have hover : overRange addr beats = !decide (addr.toNat + 4 * (beats - 1) < 0x100000000) := by
    rw [overRange, beatAddress, ← decide_not, decide_eq_decide]
    exact Nat.not_lt.symm
  by_cases h : addr.toNat + 4 * (beats - 1) < 0x100000000 <;>
    simp [State.acceptRequest, hover, h, State.modTxn, State.modPort, State.port, Port.taken, Transaction.start]

/-- R21: a read that would pass 0xFFFF_FFFF is answered ERROR on every beat. -/
theorem State.acceptRequest_overRange_read (h : overRange addr beats = true) (s : State) (p : PortId) :
    s.acceptRequest p .read addr beats =
      { s with
        ports := s.ports.set p (Port.taken
          { (Transaction.start .read addr beats).answerRest errorResponse with cls := some .overRange }) } := by
  simp [State.acceptRequest, h, State.modTxn, State.modPort, State.port, Port.taken, Transaction.startRead,
    TransactionClass.refused, Transaction.answerRest]

/-- R28: any other read request is classified when it is taken. -/
theorem State.acceptRequest_read (h : overRange addr beats = false) (s : State) (p : PortId) :
    s.acceptRequest p .read addr beats =
      State.assignClass
        { s with
          ports := s.ports.set p
            (Port.taken ((Transaction.start .read addr beats).startRead (s.classify p .read addr beats))) }
        p (s.classify p .read addr beats) (Transaction.start .read addr beats) := by
  simp [State.acceptRequest, h, State.modTxn, State.modPort, State.port, Port.taken]

/-- R31, R34: a read of a refused class posts its notice and is answered ERROR on every beat. -/
theorem State.acceptRequest_refused_read (h : overRange addr beats = false) (hcls : s.classify p .read addr beats = cls)
    (hrefused : cls.refused = true) :
    s.acceptRequest p .read addr beats =
      { s.classificationNotice p addr cls with
        ports := s.ports.set p (Port.taken
          { (Transaction.start .read addr beats).answerRest errorResponse with cls := some cls }) } := by
  have hsegment : cls.whole .read addr beats = none := by
    cases cls <;> simp [TransactionClass.refused, TransactionClass.whole] at hrefused ⊢
  rw [State.acceptRequest_read h, hcls, State.assignClass_of_no_segment (by rw [State.port_set_self]; rfl) hsegment]
  simp only [Transaction.startRead, hrefused, if_true, State.port_set_self, Vector.set_set]
  cases cls <;> rfl

/-- R23: a refused read has every beat answered ERROR, and its port is IDLE. -/
theorem State.settle_refused_read (h : PortsInForm s) (hlow : 1 ≤ beats) (hhigh : beats ≤ 16) (p : PortId) (addr : Word)
    (cls : Option TransactionClass) :
    State.settle { s with
        ports := s.ports.set p (Port.taken
          { (Transaction.start .read addr beats).answerRest errorResponse with cls := cls }) } =
      { s with
        ports := s.ports.set p
          { txn := none, segments := [], newestOpen := false, completion := none
            returned := List.replicate beats errorResponse } } := by
  rw [State.settle_set h]
  · rw [Port.flush_of_known (vs := List.replicate beats errorResponse) rfl rfl rfl]
    · rfl
    · exact fun hnil => by simp at hnil; omega
    · rw [Transaction.values_answerRest, List.map_replicate]
      rfl
  · refine .inr ?_
    rintro t ⟨⟩
    exact .inl (by simp [Transaction.answerRest, Transaction.start])
  · rintro t ⟨⟩
    simp [Transaction.owing, Transaction.answerRest, Transaction.start, hhigh]

/-- Settles O27: the read is answered as a whole when it is taken, after its notice. -/
theorem refusedReadIsAnsweredErrorOnEveryBeat : Obligations.RefusedReadIsAnsweredErrorOnEveryBeat := by
  intro s p addr beats b hform ht hpor haligned hlow hhigh
  rw [exec_requestTaken_of_idle ht hpor haligned hlow hhigh]
  refine ⟨fun hover => ?_, fun hin h => ?_, fun hin h => ?_⟩
  · rw [State.acceptRequest_overRange_read (by simpa [overRange_eq haligned hlow] using hover),
      State.settle_refused_read hform hlow hhigh]
    rfl
  · rw [State.acceptRequest_refused_read (by simpa [overRange_eq haligned hlow] using hin) h rfl]
    exact congrArg _ (State.settle_refused_read (s := s.classificationNotice p addr .straddle) hform hlow hhigh p addr _)
  · rw [State.acceptRequest_refused_read (by simpa [overRange_eq haligned hlow] using hin) h rfl]
    refine (congrArg _ (State.settle_refused_read (s := s.classificationNotice p addr (.observerRefuse b)) hform hlow hhigh
      p addr _)).trans ?_
    rw [State.classificationNotice, refusedValue_of_aligned haligned]
    rfl

/-- Settles O26: what the port's record is once the request is taken, and that a write just taken has nothing due. -/
theorem requestsAreTakenByAnIdlePort : Obligations.RequestsAreTakenByAnIdlePort := by
  refine ⟨fun s p addr beats => ⟨fun h => ?busy, fun ht hpor haligned hlow hhigh hdue => ?write⟩,
    fun s p addr beats kind b ht hpor haligned hlow hhigh hin => ?read⟩
  case busy => exact ⟨exec_requestTaken_of_not_accepted h _, exec_requestTaken_of_not_accepted h _⟩
  case write =>
    rw [exec_requestTaken_of_idle ht hpor haligned hlow hhigh, State.acceptRequest_write, State.settle_of_nothingDue]
    · rfl
    · intro q
      by_cases hq : q = p
      · subst hq
        rw [State.port_set_self]
        refine ⟨rfl, ?_⟩
        rintro t ⟨⟩
        refine Bool.eq_false_iff.mpr fun hd => ?_
        obtain ⟨-, hnone, -⟩ := (Transaction.writeDone_iff _).mp hd
        exact absurd hnone (Nat.ne_of_lt hlow)
      · rw [State.port_set_ne hq]
        exact hdue q
  case read =>
    have hover : overRange addr beats = false := by simpa [overRange_eq haligned hlow] using hin
    rw [exec_requestTaken_of_idle ht hpor haligned hlow hhigh, State.acceptRequest_read hover]
    refine ⟨fun h => ?_, fun h => ?_⟩
    · rw [State.assignClass_of_segment (by rw [State.port_set_self]; rfl) h]
      simp only [State.port_set_self, Vector.set_set]
      rcases h with ⟨hcls, rfl⟩ | ⟨hcls, rfl⟩ <;> rw [hcls] <;> rfl
    · rw [h, State.assignClass_of_no_segment (by rw [State.port_set_self]; rfl) rfl]
      simp only [State.port_set_self, Vector.set_set]
      rfl

end Classes

end Sys2Proof.Machine

namespace Sys2Proof.Machine

open Sys2Proof Sys2Proof.Safety

/-! ## Read beats out of place (R36, R78, R79, R96) -/

section Reads

variable {s : State} {p : PortId} {i : StreamId} {t : Transaction}

/-- Two changes of one stream's record, one after the other, are one. -/
theorem State.modStream_modStream (s : State) (i : StreamId) (f g : Stream → Stream) :
    (s.modStream i f).modStream i g = s.modStream i fun st => g (f st) := by
  simp [State.modStream, State.stream]

/-- A change of a stream's record reads that record alone. -/
theorem State.modStream_congr {f g : Stream → Stream} (h : f (s.stream i) = g (s.stream i)) :
    s.modStream i f = s.modStream i g := by
  simp only [State.modStream, h]

/-- R119: an abandoned frame's data leaves the consumer accumulator. -/
theorem SpanState.consumerAbandon_eq (sp : SpanState) : sp.consumerAbandon = accumulatorRestored sp := by
  unfold SpanState.consumerAbandon accumulatorRestored
  cases sp
  split <;> simp_all

/-- R78, R79, R119: the end of the frame a consumer is reading is a change of its stream's record. -/
theorem State.endConsumerFrame_eq (s : State) (i : StreamId) : s.endConsumerFrame i = s.modStream i readingEnded := by
  unfold State.endConsumerFrame
  by_cases hreal : (s.stream i).consumer.verdict = .real
  · rw [if_pos hreal, State.abandonReal, State.spanConsumerAbandon, State.modConsumer, State.modSpan,
      State.modStream_modStream]
    refine State.modStream_congr ?_
    rw [readingEnded, if_pos hreal, funext SpanState.consumerAbandon_eq]
  · rw [if_neg hreal, State.modStream_id]
    rw [readingEnded, if_neg hreal]

/-! R119: the end of the frame being read changes the delivery list and the accumulator alone. -/

@[simp] theorem readingEnded_state (st : Stream) : (readingEnded st).state = st.state := by
  unfold readingEnded
  split <;> rfl

@[simp] theorem readingEnded_session (st : Stream) : (readingEnded st).session = st.session := by
  unfold readingEnded
  split <;> rfl

@[simp] theorem readingEnded_desc (st : Stream) : (readingEnded st).desc = st.desc := by
  unfold readingEnded
  split <;> rfl

@[simp] theorem readingEnded_counters (st : Stream) : (readingEnded st).counters = st.counters := by
  unfold readingEnded
  split <;> rfl

@[simp] theorem readingEnded_placement (st : Stream) : (readingEnded st).consumer.placement = st.consumer.placement := by
  unfold readingEnded
  split <;> rfl

/-- R28: the running session of a stream that is not CLOSED is live. -/
theorem State.live_binding (h : (s.stream i).state ≠ .closed) : s.live (s.binding i) = true := by
  simp [State.live, State.binding, h]

/-- R77: the next beat of a consumer read is handed on. -/
theorem exec_readBeat_of_due {b : Binding} (h : ReadBeatDue s p t) (hcls : t.cls = some (.consumer b)) :
    exec (.readBeat p) s = .next (s.handRead p t b).settle := by
  obtain ⟨ht, hdir, hhold, hdeferred, hpos⟩ := h
  have hexec : exec (.readBeat p) s = execReadBeat p s := rfl
  simp [hexec, execReadBeat, ht, hcls, Transaction.handsRead, hdir, hhold, hdeferred, hpos]

/-- R36, R77: the beat is handed to the Consumer Path while its session runs, and answered with that session's fill_word when
it has been closed. -/
theorem State.handRead_eq {b : Binding} (ht : (s.port p).txn = some t) :
    s.handRead p t b =
      if s.live b then
        (s.modTxn p readHanded).consumerBeat b.stream p t.position
          (offsetInFrame (s.stream b.stream).desc (beatAddress t.addr t.position))
      else (s.modTxn p readHanded).answerBeat p t.position (okayResponse b.fillWord) := by
  have hhanded : s.modTxn p readHanded = s.modTxn p fun x =>
      { x with position := x.position + 1
               responses := x.responses ++ [{ beat := t.position, mark := none, value := none }] } := by
    rw [State.modTxn_of_txn ht, State.modTxn_of_txn ht]
    rfl
  rw [hhanded]
  rfl

/-- R77: the next beat of the running session of stream `i` is handed to its Consumer Path. -/
theorem exec_readBeat_of_consumerBeatDue (h : ConsumerBeatDue s p i t) :
    exec (.readBeat p) s =
      .next ((s.modTxn p readHanded).consumerBeat i p t.position (beatOffset s i t)).settle := by
  obtain ⟨hdue, hcls, hopen⟩ := h
  rw [exec_readBeat_of_due hdue hcls, State.handRead_eq hdue.1, if_pos (State.live_binding hopen)]
  rfl

/-- R23, R135: the beat just handed on, the newest, is answered internally. -/
theorem State.answerBeat_handed (ht : (s.port p).txn = some t) (hform : TransactionInForm t) (r : Response) :
    (s.modTxn p readHanded).answerBeat p t.position r = { s with ports := s.ports.set p (portAnswered s p t r) } := by
  obtain ⟨-, -, -, htaken, -⟩ := hform
  have hothers : t.responses.map (fun x => if x.beat = t.position then { x with value := some r } else x) = t.responses :=
    (List.map_congr_left fun x hx => if_neg (htaken x hx).ne).trans (List.map_id _)
  rw [State.answerBeat, State.modTxn_modTxn, State.modTxn_of_txn ht, State.closeSegment]
  simp [State.modPort, State.port, Transaction.answer, readHanded, portAnswered, hothers]

/-! ### The Consumer Path's answers out of place -/

/-- R78, R96: a beat of an ENDED stream, or a lost read inside a frame, is answered with fill_word. -/
theorem State.consumerBeat_of_word {k offset : Nat}
    (h : (s.stream i).state = .ended ∨ (s.stream i).consumer.placement = .lost ∧ offset ≠ 0) :
    s.consumerBeat i p k offset = s.answerBeat p k (okayResponse (s.stream i).desc.fillWord) := by
  by_cases hended : (s.stream i).state = .ended
  · simp [State.consumerBeat, hended]
  · obtain ⟨hlost, hoffset⟩ := h.resolve_left hended
    simp [State.consumerBeat, hended, hlost, hoffset]

/-- R78: a beat inside a frame that is not the next one is misplaced. -/
theorem State.consumerBeat_of_misplaced {k offset : Nat} (hended : (s.stream i).state ≠ .ended)
    (hplace : (s.stream i).consumer.placement = .inStep) (hoffset : offset ≠ 0)
    (hnext : offset ≠ (s.stream i).consumer.position) : s.consumerBeat i p k offset = s.misplacedRead i p k := by
  simp [State.consumerBeat, hended, hplace, hoffset, hnext]

/-- R79: the first beat of a frame that comes before the last of the frame being read is early. -/
theorem State.consumerBeat_of_early {k : Nat} (hended : (s.stream i).state ≠ .ended)
    (hplace : (s.stream i).consumer.placement = .inStep) (hnext : (s.stream i).consumer.position ≠ 0) :
    s.consumerBeat i p k 0 = s.earlyRead i p k := by
  simp [State.consumerBeat, hended, hplace, hnext.symm]

/-- R80: the first beat of a frame where one is due is a frame start. -/
theorem State.consumerBeat_of_start {k : Nat} (hended : (s.stream i).state ≠ .ended)
    (hplace : (s.stream i).consumer.placement = .inStep) (hnext : (s.stream i).consumer.position = 0) :
    s.consumerBeat i p k 0 = s.consumerFrameStart i p k := by
  simp [State.consumerBeat, hended, hplace, hnext]

/-- R78: the consumer side after a misplaced read. -/
def ConsumerSide.misplaced (cs : ConsumerSide) : ConsumerSide :=
  { cs with placement := .lost, position := 0, verdict := .lostFill }

/-- R79: the consumer side between frames, an early frame start to come. -/
def ConsumerSide.betweenFrames (cs : ConsumerSide) : ConsumerSide := { cs with position := 0, verdict := .none }

/-- R78, R79, R119: the record of a stream when the frame being read ends out of step, with one more loss counted; the change
`f` of its consumer side is what R78 and R79 differ in. -/
def readingLost (f : ConsumerSide → ConsumerSide) (st : Stream) : Stream :=
  { readingEnded st with
    consumer := f (readingEnded st).consumer
    counters := { st.counters with consumerLosses := counterUp st.counters.consumerLosses } }

/-- R78, R79: the frame being read ended out of step, in the whole state. -/
def State.readingLostAt (s : State) (i : StreamId) (f : ConsumerSide → ConsumerSide) (reason : Word) : State :=
  (s.modStream i (readingLost f)).post .place (streamSubject i) .consumer reason 0#32

theorem State.readingLostAt_stream (s : State) (i : StreamId) (f : ConsumerSide → ConsumerSide) (reason : Word) :
    (s.readingLostAt i f reason).stream i = readingLost f (s.stream i) :=
  State.stream_modStream_self s i _

/-- R77: the loss of a frame leaves the next beat of the read due. -/
theorem consumerBeatDue_readingLostAt (h : ConsumerBeatDue s p i t) (f : ConsumerSide → ConsumerSide) (reason : Word) :
    ConsumerBeatDue (s.readingLostAt i f reason) p i t := by
  obtain ⟨hdue, hcls, hopen⟩ := h
  refine ⟨hdue, ?_, ?_⟩
  · rw [hcls, State.binding, State.binding, State.readingLostAt_stream]
    simp only [readingLost, readingEnded_session, readingEnded_desc]
  · rw [State.readingLostAt_stream]
    simpa [readingLost] using hopen

/-- R78, R79, R119: the frame ends, then a loss is posted and counted. -/
theorem State.consumerLoss_endConsumerFrame (s : State) (i : StreamId) (reason : Word) (f : ConsumerSide → ConsumerSide) :
    ((s.endConsumerFrame i).modConsumer i f).consumerLoss i reason =
      s.readingLostAt i f reason := by
  have hchanges : ((s.endConsumerFrame i).modConsumer i f).consumerLoss i reason =
      (((s.endConsumerFrame i).modStream i fun st => { st with consumer := f st.consumer }).modStream i fun st =>
        { st with counters := { st.counters with consumerLosses := counterUp st.counters.consumerLosses } }).post
          .place (streamSubject i) .consumer reason 0#32 := rfl
  rw [hchanges, State.endConsumerFrame_eq, State.modStream_modStream, State.modStream_modStream]
  simp only [readingEnded_counters]
  rfl

theorem State.modConsumer_answerBeat (s : State) (i : StreamId) (p : PortId) (k : Nat) (r : Response)
    (f : ConsumerSide → ConsumerSide) : (s.answerBeat p k r).modConsumer i f = (s.modConsumer i f).answerBeat p k r := rfl

theorem State.consumerLoss_answerBeat (s : State) (i : StreamId) (p : PortId) (k : Nat) (r : Response) (reason : Word) :
    (s.answerBeat p k r).consumerLoss i reason = (s.consumerLoss i reason).answerBeat p k r := rfl

theorem State.modConsumer_consumerLoss (s : State) (i : StreamId) (reason : Word) (f : ConsumerSide → ConsumerSide) :
    (s.consumerLoss i reason).modConsumer i f = (s.modConsumer i f).consumerLoss i reason := by
  simp [State.consumerLoss, State.count, State.modConsumer, State.post, State.modStream, State.stream]

/-- R78: a misplaced read ends the frame, loses placement and is answered with fill_word. -/
theorem State.misplacedRead_eq (s : State) (i : StreamId) (p : PortId) (k : Nat) :
    s.misplacedRead i p k =
      (s.readingLostAt i .misplaced placeMisplaced).answerBeat p k (okayResponse (s.stream i).desc.fillWord) := by
  rw [← State.consumerLoss_endConsumerFrame, ← State.consumerLoss_answerBeat, ← State.modConsumer_answerBeat]
  rfl

/-- R79: an early read ends the frame and is then taken as a frame start. -/
theorem State.earlyRead_eq (s : State) (i : StreamId) (p : PortId) (k : Nat) :
    s.earlyRead i p k =
      (s.readingLostAt i .betweenFrames placeEarly).consumerFrameStart i p k := by
  rw [← State.consumerLoss_endConsumerFrame, ← State.modConsumer_consumerLoss]
  rfl

/-- Settles O45: what the Consumer Path does with the beat; for an early one, that the state so left takes the same beat as a
frame start. -/
theorem readsOutsideFramesAreAnsweredWithFillWord : Obligations.ReadsOutsideFramesAreAnsweredWithFillWord := by
  intro s p i t b hform
  refine ⟨fun hdue hword => ?word, fun hdue hcls hclosed => ?closed, fun hdue hended hplace hoffset hnext => ?misplaced,
    fun hdue hended hplace hoffset hnext => ?early⟩
  case word =>
    rw [exec_readBeat_of_consumerBeatDue hdue,
      State.consumerBeat_of_word (s := s.modTxn p readHanded) hword, State.modTxn_stream,
      State.answerBeat_handed hdue.1.1 hform]
    rfl
  case closed =>
    have hlive : s.live b = false := by
      rw [State.live, Bool.and_eq_false_iff, bne_eq_false_iff_eq, beq_eq_false_iff_ne]
      exact hclosed
    rw [exec_readBeat_of_due hdue hcls, State.handRead_eq hdue.1, hlive]
    exact congrArg (fun x : State => Host.Outcome.next x.settle) (State.answerBeat_handed hdue.1 hform _)
  case misplaced =>
    rw [exec_readBeat_of_consumerBeatDue hdue,
      State.consumerBeat_of_misplaced (s := s.modTxn p readHanded) hended hplace hoffset hnext,
      State.misplacedRead_eq]
    exact congrArg (fun x : State => Host.Outcome.next x.settle)
      (State.answerBeat_handed (s := s.readingLostAt i .misplaced placeMisplaced) hdue.1.1 hform _)
  case early =>
    have hdue' := consumerBeatDue_readingLostAt hdue .betweenFrames placeEarly
    have hstream := s.readingLostAt_stream i .betweenFrames placeEarly
    have hoffset' : beatOffset (s.readingLostAt i .betweenFrames placeEarly) i t = 0 := by
      rw [beatOffset, hstream]
      simp only [readingLost, readingEnded_desc]
      exact hoffset
    have hstart : exec (.readBeat p) (s.readingLostAt i .betweenFrames placeEarly) = _ :=
      exec_readBeat_of_consumerBeatDue hdue'
    rw [hoffset', State.consumerBeat_of_start] at hstart
    · rw [exec_readBeat_of_consumerBeatDue hdue, hoffset,
        State.consumerBeat_of_early (s := s.modTxn p readHanded) hended hplace hnext,
        State.earlyRead_eq]
      exact hstart.symm
    · rw [State.modTxn_stream, hstream]
      simpa [readingLost] using hended
    · rw [State.modTxn_stream, hstream]
      simpa [readingLost, ConsumerSide.betweenFrames] using hplace
    · rw [State.modTxn_stream, hstream]
      rfl

end Reads

end Sys2Proof.Machine

namespace Sys2Proof.Machine

open Sys2Proof Sys2Proof.Safety

/-! ## The resets (R38, R140, R160) -/

section Resets

variable {s : State} {p : PortId} {port : Port} {x : Transaction}

/-! ### A port at reset -/

theorem TransactionClass.onPath_iff (cls : TransactionClass) :
    cls.onPath = true ↔ producerBinding cls ≠ none ∨ consumerBinding cls ≠ none := by
  cases cls <;> simp [TransactionClass.onPath, producerBinding, consumerBinding]

/-- R38: a reset ends the producer and consumer transactions with error. -/
theorem Port.atReset_eq (port : Port) (onMemory : List SegmentBeat) :
    port.atReset onMemory = if ∃ x ∈ port.txn, OnPath x then port.endWithError onMemory else port := by
  cases hcls : port.txn.bind (·.cls) with
  | none =>
    rw [if_neg]
    · simp [Port.atReset, hcls]
    · rintro ⟨x, hx, c, hc, -⟩
      have hbind : port.txn.bind (·.cls) = some c := Option.bind_eq_some_iff.mpr ⟨x, hx, hc⟩
      simp [hcls] at hbind
  | some cls =>
    have hpath : (∃ x ∈ port.txn, OnPath x) ↔ cls.onPath = true := by
      obtain ⟨x, hx, hc⟩ := Option.bind_eq_some_iff.mp hcls
      rw [TransactionClass.onPath_iff]
      constructor
      · rintro ⟨x', hx', c, hc', hon⟩
        obtain rfl := Option.some.inj (hx.symm.trans hx')
        obtain rfl := Option.some.inj (hc.symm.trans hc')
        exact hon
      · exact fun hon => ⟨x, hx, cls, hc, hon⟩
    simp only [Port.atReset, hcls, hpath]

/-- R140: the result of a stream segment on the memory port is discarded. -/
theorem Granted.atReset_eq (g : Granted) :
    g.atReset = { g with discarded := g.discarded || !(g.segment.kind == .plain || g.segment.kind == .pass) } := by
  cases h : g.segment.kind <;> simp [Granted.atReset, SegmentKind.onPath, h]

/-- R38: a transaction ended with error keeps its direction. -/
@[simp] theorem Transaction.failed_dir (x : Transaction) (onMemory : List SegmentBeat) :
    (x.failed onMemory).dir = x.dir := by
  cases hdir : x.dir <;> simp [Transaction.failed, hdir, Transaction.errorRest, Transaction.answerRest]

/-- R38: a transaction ended with error is done with every path: no response it owes is a REAL beat's. -/
theorem Transaction.failed_unmarked (h : x.dir = .write → x.responses = []) (onMemory : List SegmentBeat) :
    ∀ y ∈ (x.failed onMemory).responses, y.mark = none := by
  cases hdir : x.dir with
  | read =>
    simp only [Transaction.failed, hdir, Transaction.errorRest, Transaction.answerRest, List.mem_append, List.mem_map]
    rintro y (⟨z, -, rfl⟩ | ⟨k, -, rfl⟩)
    · split <;> rfl
    · rfl
  | write => simp [Transaction.failed, hdir, h hdir]

/-- R38: with no beat on the memory port, a read ended with error has every beat answered. -/
theorem Transaction.values_failed (h : x.dir = .read) :
    (x.failed []).responses.map (·.value) =
      ((x.responses.map fun y => y.value.getD errorResponse)
        ++ List.replicate (x.beats - x.position) errorResponse).map some := by
  simp only [Transaction.failed, h, Transaction.errorRest, Transaction.values_answerRest, List.map_append,
    List.map_replicate, List.map_map]
  congr 1
  refine List.map_congr_left fun y _ => ?_
  cases hv : y.value <;> simp [hv]

/-- R38, R137: what is due on a port whose transaction was ended with error leaves it with no segment and no hold. -/
structure Port.Failed (port : Port) : Prop where
  segments : port.segments = []
  txn : ∀ y ∈ port.txn, y.hold = none ∧ y.endedWithError = true

theorem Port.Failed.endRead (h : port.Failed) : port.endRead.Failed := by
  rcases port.endRead_cases with he | he
  · rwa [he]
  · rw [he]
    exact ⟨rfl, fun _ hy => by simp at hy⟩

theorem Port.Failed.returnKnown (h : port.Failed) (responses : List ResponseSlot) :
    (port.returnKnown responses).Failed := by
  induction responses generalizing port with
  | nil => exact h
  | cons y rest ih =>
    rw [Port.returnKnown]
    split
    · next r _ =>
      refine ih (Port.Failed.endRead ⟨h.segments, fun z hz => ?_⟩)
      obtain ⟨z', hz', rfl⟩ := Option.map_eq_some_iff.mp hz
      exact h.txn z' hz'
    · exact h

theorem Port.Failed.flush (h : port.Failed) : port.flush.Failed := by
  unfold Port.flush
  split
  · exact h.returnKnown _
  · exact h

theorem Port.Failed.completeWrite (h : port.Failed) : port.completeWrite.Failed := by
  by_cases hdone : ∀ t ∈ port.txn, t.writeDone = false
  · rwa [Port.completeWrite_of_not_done hdone]
  · obtain ⟨t, ht, hd⟩ : ∃ t ∈ port.txn, t.writeDone = true := by simpa using hdone
    rw [Port.completeWrite_of_done ht hd]
    exact ⟨rfl, fun _ hy => by simp at hy⟩

theorem Port.failed_endWithError (ht : port.txn = some x) (onMemory : List SegmentBeat) :
    (port.endWithError onMemory).Failed := by
  rw [Port.endWithError_of_txn ht]
  refine ⟨rfl, ?_⟩
  rintro y ⟨⟩
  cases hdir : x.dir <;> simp [Transaction.failed, hdir, Transaction.errorRest, Transaction.answerRest]

/-! ### What is due at a reset -/

/-- R23, R38: at a reset what is due is returned on each port for itself. -/
theorem State.settle_of_reset {u : State} (hform : PortsInForm s) (hports : u.ports = s.resetBlocks.ports) :
    u.settle = u.mapPorts fun _ port => port.flush.completeWrite := by
  have hport (q : PortId) : u.port q = (s.port q).atReset (s.beatsOnMemory q) := by
    rw [← State.resetBlocks_port, State.port, State.port, hports]
  obtain ⟨htxn, -, -, hdue⟩ := id hform
  refine State.settle_of_local (fun q => ?_) fun q t ht => ?_
  · rw [hport, Port.atReset_eq]
    split
    · next hpath =>
      obtain ⟨x, hx, -⟩ := hpath
      obtain ⟨-, -, -, -, hwrite⟩ := (htxn q).1 x hx
      rw [Port.endWithError_of_txn hx]
      refine .inr ?_
      rintro y ⟨⟩
      exact .inl (Transaction.failed_unmarked hwrite _)
    · exact .inl (hdue q).1
  · have hsized := (State.resetBlocks_form Transaction.sized_taken (State.desk_portsInForm_iff.mpr hform).1).txn q t
      (by rwa [State.desk_port, State.resetBlocks_port, ← hport])
    obtain ⟨⟨-, hbeats⟩, hposition, howed, -, -⟩ := hsized
    rw [Transaction.owing]
    omega

/-- R38: the record of a port after a reset. -/
theorem State.settle_port_of_reset {u : State} (hform : PortsInForm s) (hports : u.ports = s.resetBlocks.ports)
    (p : PortId) : u.settle.port p = ((s.port p).atReset (s.beatsOnMemory p)).flush.completeWrite := by
  rw [State.settle_of_reset hform hports, State.port_mapPorts, ← State.resetBlocks_port, State.port, State.port, hports]

/-- R38: a port with no producer or consumer transaction goes on as it was. -/
theorem Port.atReset_flush_of_off_path (h : ¬ ∃ x ∈ port.txn, OnPath x)
    (hdue : port.responseDue = none ∧ ∀ t ∈ port.txn, t.writeDone = false) (onMemory : List SegmentBeat) :
    (port.atReset onMemory).flush.completeWrite = port := by
  rw [Port.atReset_eq, if_neg h, Port.flush_completeWrite_of_nothingDue hdue]

/-- R38: a producer or consumer transaction is ended with error. -/
theorem Port.atReset_of_on_path (hx : port.txn = some x) (hpath : OnPath x) (onMemory : List SegmentBeat) :
    port.atReset onMemory =
      { port with segments := [], newestOpen := false, txn := some (x.failed onMemory) } := by
  rw [Port.atReset_eq, if_pos ⟨x, hx, hpath⟩, Port.endWithError_of_txn hx]

/-- R38: a read with a beat to answer and none on the memory port is over at a reset. -/
theorem Port.atReset_flush_of_read (hx : port.txn = some x) (hpath : OnPath x) (hdir : x.dir = .read)
    (howes : x.responses ≠ [] ∨ x.position < x.beats) :
    (port.atReset []).flush.completeWrite =
      { port with
        txn := none, segments := [], newestOpen := false
        returned := port.returned ++ (x.responses.map fun y => y.value.getD errorResponse)
          ++ List.replicate (x.beats - x.position) errorResponse } := by
  have hanswered : (x.failed []).position = (x.failed []).beats := by
    simp [Transaction.failed, hdir, Transaction.errorRest, Transaction.answerRest]
  have hsome : (x.responses.map fun y => y.value.getD errorResponse)
      ++ List.replicate (x.beats - x.position) errorResponse ≠ [] := by
    rcases howes with h | h
    · simp [h]
    · simp [Nat.sub_ne_zero_of_lt h]
  rw [Port.atReset_of_on_path hx hpath,
    Port.flush_of_known rfl ((x.failed_dir []).trans hdir) hanswered hsome (Transaction.values_failed hdir),
    Port.completeWrite_of_not_done (by simp), List.append_assoc]

/-- R38: a write has its completion at a reset if every beat is accepted and none is on the memory port. -/
theorem Port.atReset_flush_of_write (hx : port.txn = some x) (hpath : OnPath x) (hdir : x.dir = .write)
    (hresponses : x.responses = []) :
    (port.atReset []).flush.completeWrite =
      if x.position = x.beats then
        { port with txn := none, segments := [], newestOpen := false, completion := some .error }
      else
        { port with
          segments := [], newestOpen := false
          txn := some { x with hold := none, deferred := false, anyError := true, endedWithError := true
                               outstanding := 0 } } := by
  have hfailed : x.failed [] =
      { x with hold := none, deferred := false, anyError := true, endedWithError := true, outstanding := 0 } := by
    simp [Transaction.failed, hdir]
  have hnone : Port.responseDue { port with segments := [], newestOpen := false, txn := some (x.failed []) } = none :=
    Port.responseDue_of_no_responses rfl (by rw [hfailed]; exact hresponses)
  rw [Port.atReset_of_on_path hx hpath, Port.flush_of_not_due hnone, hfailed]
  split
  · next hlast =>
    have hdone : (x.failed []).writeDone = true := by
      rw [hfailed]
      exact (Transaction.writeDone_iff _).mpr ⟨hdir, hlast, rfl, rfl⟩
    rw [Port.completeWrite_of_done rfl (hfailed ▸ hdone)]
    rfl
  · next hmore =>
    rw [Port.completeWrite_of_not_done]
    rintro t ⟨⟩
    exact Bool.eq_false_iff.mpr fun hd => hmore ((Transaction.writeDone_iff _).mp hd).2.1

/-! ### The two resets -/

/-- R160, R161: either reset resets the blocks and returns what is then due. -/
theorem exec_reset {c : Instr} (hpor : s.porHigh = true)
    (hc : c = .powerOnReset ∨ c = .csnRise ∧ s.csHigh = false ∧ s.spi.resetPending = true) :
    ∃ u : State, exec c s = .next u.settle ∧ u.ports = s.resetBlocks.ports ∧ u.streams = s.resetBlocks.streams
      ∧ u.memory = s.resetBlocks.memory := by
  rcases hc with rfl | ⟨rfl, hcs, hpending⟩
  · have hexec : exec .powerOnReset s = execPowerOnReset s := rfl
    rw [hexec, execPowerOnReset, if_pos hpor]
    exact ⟨_, rfl, rfl, rfl, rfl⟩
  · have hexec : exec .csnRise s = execCsnRise s := rfl
    simp only [hexec, execCsnRise, hcs, hpor, hpending, Bool.false_eq_true, if_false, if_true]
    exact ⟨_, rfl, rfl, rfl, rfl⟩

theorem State.resetBlocks_memory (s : State) :
    s.resetBlocks.memory = s.memory.map fun g =>
      { g with discarded := g.discarded || !(g.segment.kind == .plain || g.segment.kind == .pass) } :=
  congrArg (fun f => s.memory.map f) (funext Granted.atReset_eq)

/-- R38: the ports when a reset is taken. -/
theorem State.resetBlocks_ports (s : State) : s.resetBlocks.ports = portsAtReset s := by
  have hports : s.resetBlocks.ports = (s.mapPorts fun p port => port.atReset (s.beatsOnMemory p)).ports := rfl
  rw [hports, portsAtReset]
  simp only [Port.atReset_eq]

/-- Settles O11: a reset changes each port for itself, by the class of its transaction, and nothing more is due. -/
theorem resetEndsStreamTransactionsOnly : Obligations.ResetEndsStreamTransactionsOnly := by
  refine ⟨fun s p hform hpor => ?power, fun s c hpor hc => ⟨?effects, fun p x hform hx => ?ports⟩⟩
  case power =>
    obtain ⟨u, hexec, hports, -, hmemory⟩ := exec_reset hpor (.inl rfl)
    have hport := State.settle_port_of_reset hform hports p
    have hdue := hform.2.2.2 p
    refine ⟨_, hexec, fun ht => ?_, fun x hx c hcls hproducer hconsumer => ?_, fun x hx c hcls hpath => ?_, ?_⟩
    · rw [hport, Port.atReset_flush_of_off_path (by simp [ht]) hdue]
    · rw [hport, Port.atReset_flush_of_off_path _ hdue]
      rintro ⟨x', hx', c', hcls', hpath⟩
      obtain rfl := Option.some.inj (Option.mem_def.mp hx |>.symm.trans hx')
      obtain rfl := Option.some.inj (Option.mem_def.mp hcls |>.symm.trans hcls')
      simp [hproducer, hconsumer] at hpath
    · rw [hport, Port.atReset_eq, if_pos ⟨x, hx, c, hcls, hpath⟩]
      have hfailed := (Port.failed_endWithError hx (s.beatsOnMemory p)).flush.completeWrite
      exact ⟨hfailed.segments, hfailed.txn⟩
    · rw [State.settle_of_reset hform hports, State.mapPorts_memory, hmemory, State.resetBlocks_memory]
  case effects =>
    obtain ⟨u, hexec, hports, hstreams, hmemory⟩ := exec_reset hpor hc
    refine ⟨_, u, hexec, rfl, hports.trans s.resetBlocks_ports, fun i => ?_, hmemory.trans s.resetBlocks_memory⟩
    rw [← State.resetBlocks_stream, State.stream, State.stream, hstreams]
  case ports =>
    obtain ⟨u, hexec, hports, -, -⟩ := exec_reset hpor hc
    have hport := State.settle_port_of_reset hform hports p
    obtain ⟨htxn, -, -, hdue⟩ := hform
    obtain ⟨-, -, -, -, hwrite⟩ := (htxn p).1 x hx
    refine ⟨_, hexec, fun hcls => ?_, fun hpath hmemory => ⟨fun hdir howes => ?_, fun hdir hlast => ?_,
      fun hdir hmore => ?_⟩⟩
    · rw [hport, Port.atReset_flush_of_off_path _ (hdue p)]
      rintro ⟨x', hx', c', hcls', -⟩
      obtain rfl := Option.some.inj (hx.symm.trans hx')
      simp [hcls] at hcls'
    · rw [hport, hmemory, Port.atReset_flush_of_read hx hpath hdir howes]
      rfl
    · rw [hport, hmemory, Port.atReset_flush_of_write hx hpath hdir (hwrite hdir), if_pos hlast]
    · rw [hport, hmemory, Port.atReset_flush_of_write hx hpath hdir (hwrite hdir), if_neg hmore.ne]

end Resets

end Sys2Proof.Machine

namespace Sys2Proof.Machine

open Sys2Proof Sys2Proof.Safety

/-! ## An event of one stream on one port

Most events of the two paths change the record of one stream, the record of one port, the pace lines and the notices, and
nothing else. `State.put` writes such a state down; the rules below say what the single updates make of it. -/

/-- `s` with these records of stream `i` and port `p`, these pace lines and these notices. -/
def State.put (s : State) (i : StreamId) (p : PortId) (st : Stream) (port : Port) (lines : Vector Line 8)
    (queue : NoticeQueue) : State :=
  { s with streams := s.streams.set i st, ports := s.ports.set p port, lines := lines, queue := queue }

section Put

variable (s : State) (i : StreamId) (p : PortId) (st : Stream) (port : Port) (lines : Vector Line 8) (queue : NoticeQueue)

/-- Every state has its own records. -/
theorem State.put_self : s.put i p (s.stream i) (s.port p) s.lines s.queue = s := by
  simp [State.put, State.stream, State.port]

@[simp] theorem State.put_stream : (s.put i p st port lines queue).stream i = st := by simp [State.put, State.stream]

@[simp] theorem State.put_port : (s.put i p st port lines queue).port p = port := by simp [State.put, State.port]

@[simp] theorem State.put_binding : (s.put i p st port lines queue).binding i = st.ring.binding i := by
  simp [State.binding, Ring.binding]

@[simp] theorem State.put_modStream (f : Stream → Stream) :
    (s.put i p st port lines queue).modStream i f = s.put i p (f st) port lines queue := by
  simp [State.put, State.modStream, State.stream]

@[simp] theorem State.put_modPort (f : Port → Port) :
    (s.put i p st port lines queue).modPort p f = s.put i p st (f port) lines queue := by
  simp [State.put, State.modPort, State.port]

@[simp] theorem State.put_modProducer (f : ProducerSide → ProducerSide) :
    (s.put i p st port lines queue).modProducer i f =
      s.put i p { st with producer := f st.producer } port lines queue :=
  s.put_modStream ..

@[simp] theorem State.put_modConsumer (f : ConsumerSide → ConsumerSide) :
    (s.put i p st port lines queue).modConsumer i f =
      s.put i p { st with consumer := f st.consumer } port lines queue :=
  s.put_modStream ..

@[simp] theorem State.put_count (f : Counters → Counters) :
    (s.put i p st port lines queue).count i f = s.put i p { st with counters := f st.counters } port lines queue :=
  s.put_modStream ..

@[simp] theorem State.put_modSpan (f : SpanState → SpanState) :
    (s.put i p st port lines queue).modSpan i f = s.put i p { st with span := st.span.map f } port lines queue :=
  s.put_modStream ..

@[simp] theorem State.put_modTxn (f : Transaction → Transaction) :
    (s.put i p st port lines queue).modTxn p f = s.put i p st { port with txn := port.txn.map f } lines queue :=
  s.put_modPort ..

@[simp] theorem State.put_closeSegment :
    (s.put i p st port lines queue).closeSegment p = s.put i p st { port with newestOpen := false } lines queue :=
  s.put_modPort ..

@[simp] theorem State.put_post (kind : NoticeKind) (subject : Byte) (side : NoticeSide) (value1 value2 : Word) :
    (s.put i p st port lines queue).post kind subject side value1 value2 =
      s.put i p st port lines (queue.post kind subject side value1 value2) := rfl

@[simp] theorem State.put_paceFrameStart (side : Side) :
    (s.put i p st port lines queue).paceFrameStart i side =
      s.put i p st port (linesStarted { s with lines := lines } i side) queue := rfl

@[simp] theorem State.put_paceTest :
    (s.put i p st port lines queue).paceTest i =
      s.put i p st port (linesTested { s with lines := lines } i st) queue := by
  rw [State.paceTest_eq, State.put_stream]
  rfl

/-- R47, R82, R92: a beat forwarded for the transaction in progress of the port. -/
theorem State.put_forward {t : Transaction} (ht : port.txn = some t) (kind : SegmentKind) (dir : Dir) (addr : Word)
    (b : Binding) (beat : SegmentBeat) :
    (s.put i p st port lines queue).forward p kind dir addr b beat =
      (s.put i p st
        (Port.joinSegment { port with txn := some { t with outstanding := t.outstanding + 1 } } kind dir addr b beat)
        lines queue).arbitrate := by
  simp [State.forward, ht]

end Put

/-! ## The Producer Path takes a beat (R22, R40, R43) -/

section ProducerPath

variable {s : State} {p : PortId} {i : StreamId} {t : Transaction} {st : Stream} {port : Port} {lines : Vector Line 8}
  {queue : NoticeQueue}

/-- A change of the transaction in progress of a port. -/
theorem State.modTxn_eq_put (ht : (s.port p).txn = some t) (i : StreamId) (f : Transaction → Transaction) :
    s.modTxn p f = s.put i p (s.stream i) { s.port p with txn := some (f t) } s.lines s.queue := by
  conv_lhs => rw [← s.put_self i p, State.put_modTxn, ht]
  rfl

/-- R22: a beat with all 4 byte enables set is full. -/
@[simp] theorem fullBeat_all : fullBeat 0xF#4 = true := rfl

/-- R22: the write `t` after its next beat is taken. -/
def beatTaken (t : Transaction) : Transaction := { t with position := t.position + 1 }

/-- R40: the next beat of the running session of stream `i` is handed to its Producer Path. -/
theorem exec_writeBeat_of_producerBeatDue (h : ProducerBeatDue s p i t) (data : Word) (enables : BitVec 4) :
    exec (.writeBeat p data enables) s =
      .next (((s.put i p (s.stream i) { s.port p with txn := some (beatTaken t) } s.lines s.queue).producerBeat i p
        t.position data (fullBeat enables) (beatOffset s i t)).settle) := by
  obtain ⟨hdue, hcls, herror, hopen⟩ := h
  have hlive : (s.modTxn p beatTaken).live (s.binding i) = true := State.live_binding hopen
  rw [← State.modTxn_eq_put hdue.1 i beatTaken, exec_writeBeat_of_due hdue, State.acceptWrite_of_classed hcls]
  show Host.Outcome.next (State.settle ((s.modTxn p beatTaken).disposeWrite p t (.producer (s.binding i)) data enables)) = _
  simp only [State.disposeWrite, herror, hlive, Bool.false_eq_true, if_false, if_true]
  rfl

/-- R43: the record of a stream when a frame start is decided: its producer is in step. -/
def Stream.atFrameStart (st : Stream) : Stream := { st with producer := { st.producer with placement := .inStep } }

theorem Stream.atFrameStart_of_inStep (h : st.producer.placement = .inStep) : st.atFrameStart = st := by
  rw [Stream.atFrameStart, ← h]

/-- R40, R43: a full beat that is a frame start, in step or a recovery, is decided as one. -/
theorem exec_writeBeat_of_frameStart (h : ProducerBeatDue s p i t) (hstart : ProducerFrameStart s i t) (data : Word) :
    exec (.writeBeat p data 0xF#4) s =
      .next (((s.put i p (s.stream i).atFrameStart { s.port p with txn := some (beatTaken t) } s.lines
        s.queue).producerFrameStart i p t.position data).settle) := by
  obtain ⟨hoffset, hplace⟩ := hstart
  rw [exec_writeBeat_of_producerBeatDue h, hoffset]
  cases hp : (s.stream i).producer.placement with
  | lost => simp [State.producerBeat, hp, Stream.atFrameStart]
  | inStep =>
    have hposition : (s.stream i).producer.position = 0 := hplace.resolve_left (by simp [hp])
    simp [State.producerBeat, hp, hposition, Stream.atFrameStart_of_inStep hp]

/-- R47, R48, R115: the record of a stream after the beat at `offset` of its newest in-flight frame `e` is forwarded, which
the Span Check Unit takes as `f` says. -/
def Stream.beatForwarded (older : List InFlight) (e : InFlight) (offset : Nat) (f : SpanState → SpanState)
    (st : Stream) : Stream :=
  { st with
    producer := { st.producer with
      position := if offset + 4 = st.desc.frameBytes then 0 else offset + 4
      treatment := if offset + 4 = st.desc.frameBytes then .none else .place
      inFlight := older ++
        [{ e with outstanding := e.outstanding + 1
                  stage := if offset + 4 = st.desc.frameBytes then .sealed else e.stage }] }
    span := st.span.map f }

/-- R115: the beat at `offset` of a frame in this slot is the last of a span. -/
def endsSpan (d : Descriptor) (slot offset : Nat) : Bool :=
  decide (offset + 4 = d.frameBytes) && decide ((slot + 1) % d.spanLength = 0)

/-- R47, R135: the port after the beat at `offset` of the in-flight frame `e` is forwarded to the frame's slot. -/
def Port.placedBeat (port : Port) (t : Transaction) (d : Descriptor) (b : Binding) (e : InFlight) (k : Nat) (data : Word)
    (offset : Nat) : Port :=
  Port.joinSegment { port with txn := some { t with outstanding := t.outstanding + 1 } } .producer .write
    (BitVec.ofNat 32 (d.base.toNat + e.slot * d.frameBytes + offset)) b
    { beat := k, data := some (data, 0xF#4), frame := e.index, entry := e.id
      last := decide (offset + 4 = d.frameBytes) }

/-- R47, R48, R115: the beat at `offset` of the newest in-flight frame is forwarded to the frame's slot. -/
theorem State.put_forwardPlaced {older : List InFlight} {e : InFlight} (hlist : st.producer.inFlight = older ++ [e])
    (ht : port.txn = some t) (k : Nat) (data : Word) (offset : Nat) :
    (s.put i p st port lines queue).forwardPlaced i p k data offset =
      (s.put i p (st.beatForwarded older e offset fun sp =>
          sp.producerBeat s.polynomial s.initial data (endsSpan st.desc e.slot offset))
        (port.placedBeat t st.desc (st.ring.binding i) e k data offset) lines queue).arbitrate := by
  have hlast : st.producer.inFlight.getLast? = some e := by simp [hlist]
  simp only [State.forwardPlaced, State.put_stream, hlast, State.spanProducerBeat, State.put_modProducer, State.put_modSpan,
    State.put_forward _ _ _ _ _ _ _ ht]
  simp only [Stream.beatForwarded, Port.placedBeat, State.put_binding, forwardNewest, hlist, lastOffset, nextPosition,
    lastOfSpan, endsSpan, slotAddress, List.getLast?_concat, List.dropLast_concat, beq_eq_decide, decide_eq_true_eq]
  rfl

/-- R44, R115: the record of a stream after a placed frame start takes its entry, with its checkpoint. -/
def Stream.frameEntered (st : Stream) : Stream :=
  { st with
    producer := { st.producer with
      inFlight := st.producer.inFlight ++ [st.newInFlight]
      treatment := .place
      nextEntry := st.producer.nextEntry + 1 }
    span := st.span.map SpanState.producerStart }

@[simp] theorem State.put_enterFrame :
    (s.put i p st port lines queue).enterFrame i = s.put i p st.frameEntered port lines queue := by
  simp [State.enterFrame, State.spanProducerStart, Stream.frameEntered]

/-- R44, R47, R48, R115: the record of a stream after a frame start is placed and its first beat forwarded. -/
def State.framePlaced (s : State) (st : Stream) (data : Word) : Stream :=
  st.frameEntered.beatForwarded st.producer.inFlight st.newInFlight 0 fun sp =>
    sp.producerBeat s.polynomial s.initial data (endsSpan st.desc st.newInFlight.slot 0)

/-- R44, R130: a frame just entered begins its line's packet, and its first beat is forwarded. -/
theorem State.put_startPlaced (ht : port.txn = some t) (k : Nat) (data : Word) :
    (s.put i p st.frameEntered port lines queue).startPlaced i p k data =
      (s.put i p (s.framePlaced st data)
        (port.placedBeat t st.desc (st.ring.binding i) st.newInFlight k data 0)
        (linesStarted { s with lines := lines } i .producer) queue).arbitrate := by
  rw [State.startPlaced, State.put_paceFrameStart, State.put_forwardPlaced rfl ht]
  rfl

/-- R43, R44: in OPEN, FLOWING, below the frame limit and with free room, a frame start is placed. -/
theorem Stream.producerDecision_place (hopen : st.state = .opened) (hphase : st.producer.phase = .flowing)
    (hlimit : st.atFrameLimit = false) (hroom : 1 ≤ st.freeRoom) : st.producerDecision = .place := by
  simp [Stream.producerDecision, hopen, hphase, hlimit, hroom]

/-- Settles O31: the beat is decided as a frame start with room, its entry is appended, and its beat forwarded. -/
theorem frameStartWithRoomIsPlaced : Obligations.FrameStartWithRoomIsPlaced := by
  rintro s p i t data slot hdue hstart hopen hphase hlimit hroom rfl
  have hdecision : (s.stream i).atFrameStart.producerDecision = .place :=
    Stream.producerDecision_place hopen hphase hlimit hroom
  rw [exec_writeBeat_of_frameStart hdue hstart, State.producerFrameStart, State.put_stream, hdecision]
  simp only [State.placeFrame, State.put_enterFrame]
  rw [State.put_startPlaced (t := beatTaken t) rfl]
  have hfirst : 0 + 4 = (s.stream i).atFrameStart.desc.frameBytes ↔ (s.stream i).desc.frameBytes = 4 := eq_comm
  simp only [State.framePlaced, Stream.beatForwarded, Port.placedBeat, Stream.frameEntered, endsSpan, hfirst,
    Option.map_map]
  rfl

/-- R47, R48: a continuation beat of a placed frame, in its place, is forwarded. -/
theorem State.put_producerBeat_of_continuation {offset : Nat} (hplace : st.producer.placement = .inStep)
    (hposition : st.producer.position = offset) (hoffset : offset ≠ 0) (htreatment : st.producer.treatment = .place)
    (k : Nat) (data : Word) :
    (s.put i p st port lines queue).producerBeat i p k data true offset =
      (s.put i p st port lines queue).forwardPlaced i p k data offset := by
  simp [State.producerBeat, State.continueProducer, hplace, hposition, hoffset, htreatment]

end ProducerPath

/-! ## REAL frames (R82, R118) -/

section RealFrames

variable {s : State} {p : PortId} {i : StreamId} {t : Transaction} {st : Stream} {port : Port} {lines : Vector Line 8}
  {queue : NoticeQueue}

/-- R82: the consumer side of a stream after the beat at `offset` of its newest frame in delivery `e` is forwarded. -/
def Stream.realForwarded (older : List Delivery) (e : Delivery) (offset : Nat) (st : Stream) : Stream :=
  { st with
    consumer := { st.consumer with
      position := if offset + 4 = st.desc.frameBytes then 0 else offset + 4
      verdict := if offset + 4 = st.desc.frameBytes then .none else .real
      delivery := older ++ [{ e with stage := if offset + 4 = st.desc.frameBytes then .sealed else e.stage }] } }

/-- R82, R135: the port after the beat at `offset` of the frame in delivery `e` is forwarded as a read of the frame's slot. -/
def Port.realBeat (port : Port) (t : Transaction) (d : Descriptor) (b : Binding) (e : Delivery) (k offset : Nat) : Port :=
  Port.joinSegment
    { port with
      txn := some
        { t.markReal k { entry := e.id, frame := e.index, last := decide (offset + 4 = d.frameBytes) } with
          outstanding := t.outstanding + 1 } }
    .real .read (BitVec.ofNat 32 (d.base.toNat + e.slot * d.frameBytes + offset)) b
    { beat := k, data := none, frame := e.index, entry := e.id, last := decide (offset + 4 = d.frameBytes) }

/-- R82: the beat at `offset` of the newest frame in delivery is forwarded as a read of the frame's slot. -/
theorem State.put_forwardReal {older : List Delivery} {e : Delivery} (hlist : st.consumer.delivery = older ++ [e])
    (ht : port.txn = some t) (k offset : Nat) :
    (s.put i p st port lines queue).forwardReal i p k offset =
      (s.put i p (st.realForwarded older e offset) (port.realBeat t st.desc (st.ring.binding i) e k offset) lines
        queue).arbitrate := by
  have hlast : st.consumer.delivery.getLast? = some e := by simp [hlist]
  simp only [State.forwardReal, State.put_stream, hlast, State.put_modConsumer, State.put_modTxn, ht, Option.map_some]
  rw [State.put_forward _ _ _ _ _ _ _ rfl]
  simp only [Stream.realForwarded, Port.realBeat, State.put_binding, sealNewest, hlist, lastOffset, nextPosition,
    slotAddress, List.getLast?_concat, List.dropLast_concat, beq_eq_decide, decide_eq_true_eq]
  rfl

/-- R82: the beat just handed on, the newest, is marked as a REAL one. -/
theorem Transaction.markReal_handed (hform : TransactionInForm t) (m : RealMark) :
    (readHanded t).markReal t.position m =
      { t with position := t.position + 1
               responses := t.responses ++ [{ beat := t.position, mark := some m, value := none }] } := by
  obtain ⟨-, -, -, htaken, -⟩ := hform
  have hothers : t.responses.map (fun x => if x.beat = t.position then { x with mark := some m } else x) = t.responses :=
    (List.map_congr_left fun x hx => if_neg (htaken x hx).ne).trans (List.map_id _)
  simp [Transaction.markReal, readHanded, hothers]

/-- R82: a continuation beat of a REAL frame, in its place, is forwarded. -/
theorem State.put_consumerBeat_of_continuation {offset : Nat} (hended : st.state ≠ .ended)
    (hplace : st.consumer.placement = .inStep) (hposition : st.consumer.position = offset) (hoffset : offset ≠ 0)
    (hverdict : st.consumer.verdict = .real) (k : Nat) :
    (s.put i p st port lines queue).consumerBeat i p k offset =
      (s.put i p st port lines queue).forwardReal i p k offset := by
  simp [State.consumerBeat, State.continueConsumer, hended, hplace, hposition, hoffset, hverdict]

end RealFrames

section Continuation

/-- Settles O32: a continuation beat, in its place, is forwarded for the newest entry of its side's list. -/
theorem continuationBeatsGoToTheirFramesSlot : Obligations.ContinuationBeatsGoToTheirFramesSlot := by
  refine ⟨?producer, ?consumer⟩
  case producer =>
    rintro s p i t data older e offset last hdue rfl hoffset hplace hposition htreatment hlist rfl
    rw [exec_writeBeat_of_producerBeatDue hdue, fullBeat_all,
      State.put_producerBeat_of_continuation hplace hposition hoffset htreatment, State.put_forwardPlaced hlist rfl]
    simp only [Stream.beatForwarded, Port.placedBeat, endsSpan, decide_eq_true_eq]
    rfl
  case consumer =>
    rintro s p i t older e offset last hdue hform hended rfl hoffset hplace hposition hverdict hlist rfl
    rw [exec_readBeat_of_consumerBeatDue hdue, State.modTxn_eq_put hdue.1.1 i,
      State.put_consumerBeat_of_continuation hended hplace hposition hoffset hverdict, State.put_forwardReal hlist rfl]
    simp only [Stream.realForwarded, Port.realBeat, Transaction.markReal_handed hform, decide_eq_true_eq]
    rfl

end Continuation

/-! ## Absorbed frames (R43, R46, R63, R102) -/

section Absorbed

variable {s : State} {p : PortId} {i : StreamId} {t : Transaction} {st : Stream} {port : Port} {lines : Vector Line 8}
  {queue : NoticeQueue}

/-- R46: the first beat of a frame is its last where a frame is one beat. -/
theorem lastOffset_zero (d : Descriptor) : lastOffset d 0 = decide (d.frameBytes = 4) := by
  rw [lastOffset, beq_eq_decide, decide_eq_decide]
  exact eq_comm

/-- R46: a frame start of a producer in step is absorbed. -/
theorem State.put_absorbFrame (hplace : st.producer.placement = .inStep) :
    (s.put i p st port lines queue).absorbFrame i p =
      s.put i p { st with producer := frameAbsorbed st } { port with newestOpen := false } lines queue := by
  simp only [State.absorbFrame, State.put_stream, State.put_modProducer, State.put_closeSegment, frameAbsorbed,
    positionAfterStart, nextPosition, lastOffset_zero, ← hplace, Nat.zero_add, decide_eq_true_eq]

/-- R102: the record of a stream after an excess frame is absorbed and counted. -/
def Stream.excessTaken (st : Stream) : Stream :=
  { st with
    producer := frameAbsorbed st
    counters := { st.counters with excess := counterUp st.counters.excess } }

/-- R102: the notices after an excess frame of stream `i`, whose record was `st`. -/
def NoticeQueue.excessPosted (queue : NoticeQueue) (i : StreamId) (st : Stream) : NoticeQueue :=
  if st.counters.excess = 0#16 then queue.post .excess (streamSubject i) .producer st.committed 0#32 else queue

/-- R102: an excess frame is counted, the session's first one is reported, and it is absorbed. -/
theorem State.put_excessFrame (hplace : st.producer.placement = .inStep) :
    (s.put i p st port lines queue).excessFrame i p =
      s.put i p st.excessTaken { port with newestOpen := false } lines (queue.excessPosted i st) := by
  simp only [State.excessFrame, State.put_stream, State.put_count, State.put_post, NoticeQueue.excessPosted]
  split
  · exact State.put_absorbFrame hplace
  · exact State.put_absorbFrame hplace

/-- R63: a frame absorbed in the overrun condition is counted in the tally and the counter. -/
theorem State.put_overrunFrame (hplace : st.producer.placement = .inStep) :
    (s.put i p st port lines queue).overrunFrame i p =
      s.put i p
        { st with
          producer := { frameAbsorbed st with tally := tallyUp st.producer.tally }
          counters := { st.counters with absorbed := counterUp st.counters.absorbed } }
        { port with newestOpen := false } lines queue := by
  simp only [State.overrunFrame, State.put_modProducer, State.put_count]
  exact State.put_absorbFrame hplace

/-- R43: outside OPEN, in phase DONE and at the frame limit a frame start is in excess. -/
theorem Stream.producerDecision_excess
    (h : st.state ≠ .opened ∨ st.producer.phase = .done ∨ st.atFrameLimit = true) : st.producerDecision = .excess := by
  rw [← or_assoc] at h
  unfold Stream.producerDecision
  rcases h with h | h
  · rw [if_pos h]
  · rw [if_pos h, ite_self]

/-- R43, R70: in the overrun condition, below the frame limit, a frame start without room or consent is absorbed. -/
theorem Stream.producerDecision_absorb (hopen : st.state = .opened) (hphase : st.producer.phase = .overrun)
    (hlimit : st.atFrameLimit = false)
    (h : st.freeRoom < st.desc.restartLevel ∨ st.overrunAcked = false ∧ st.desc.autoResume = false) :
    st.producerDecision = .absorb := by
  have hstay : st.overrunMayResume = false := by
    rcases h with h | ⟨hack, hauto⟩
    · simp [Stream.overrunMayResume, h]
    · simp [Stream.overrunMayResume, hack, hauto]
  simp [Stream.producerDecision, hopen, hphase, hlimit, hstay]

/-- Settles O33: by the decision at the frame start, which the record in step does not change. -/
theorem framesTakenAsExcessOrInTheOverrunAreAbsorbed : Obligations.FramesTakenAsExcessOrInTheOverrunAreAbsorbed := by
  refine ⟨fun s p i t data hdue hstart hexcess => ?excess,
    fun s p i t data hdue hstart hopen hphase hlimit hstay => ?overrun⟩
  case excess =>
    have hdecision : (s.stream i).atFrameStart.producerDecision = .excess := Stream.producerDecision_excess hexcess
    rw [exec_writeBeat_of_frameStart hdue hstart, State.producerFrameStart, State.put_stream, hdecision]
    exact congrArg (fun x : State => Host.Outcome.next x.settle) (State.put_excessFrame rfl)
  case overrun =>
    have hdecision : (s.stream i).atFrameStart.producerDecision = .absorb :=
      Stream.producerDecision_absorb hopen hphase hlimit hstay
    rw [exec_writeBeat_of_frameStart hdue hstart, State.producerFrameStart, State.put_stream, hdecision]
    exact congrArg (fun x : State => Host.Outcome.next x.settle) (State.put_overrunFrame rfl)

end Absorbed
end Sys2Proof.Machine

namespace Sys2Proof.Machine

open Sys2Proof Sys2Proof.Safety

/-! ## The slot of the next frame placed (R44, R51) -/

section Slots

/-- Two slots of a ring at different distances from a cursor, both less than one turn, are different. -/
theorem slotAfter_ne {d : Descriptor} {a b : Nat} (cursor : Nat) (hab : a < b) (hb : b < d.depth) :
    slotAfter d cursor a ≠ slotAfter d cursor b := fun h => by
  have heq : a ≡ b [MOD d.depth] := Nat.ModEq.add_left_cancel' cursor h
  exact hab.ne (heq.eq_of_lt_of_lt (hab.trans hb) hb)

/-- A slot after a cursor that is itself a slot after a cursor. -/
theorem slotAfter_slotAfter (d : Descriptor) (cursor m n : Nat) :
    slotAfter d (slotAfter d cursor m) n = slotAfter d cursor (m + n) := by
  rw [slotAfter, slotAfter, slotAfter, Nat.mod_add_mod, Nat.add_assoc]

/-- Settles O38: counted from the consumer cursor, the committed frames stand first, then the frames in flight, then the slot
of the next frame, and the held slot last of the turn. -/
theorem placedFrameNeverOverwritesAFrame : Obligations.PlacedFrameNeverOverwritesAFrame := by
  rintro st ⟨⟨hdepth, -⟩, -, -, -, ⟨-, hcursor⟩, hlist, -, -, hheld⟩ hroom
  have hfree : st.occupancy + st.producer.inFlight.length < st.usableDepth := by
    simpa using Stream.room_of_freeRoom hroom
  have husable : st.usableDepth ≤ st.desc.depth := Ring.usableDepth_le st.ring
  have hslot (n : Nat) : slotAfter st.desc st.producerCursor n = slotAfter st.desc st.consumerCursor (st.occupancy + n) := by
    rw [hcursor]
    exact slotAfter_slotAfter ..
  have hnext : st.newInFlight.slot
      = slotAfter st.desc st.consumerCursor (st.occupancy + st.producer.inFlight.length) := hslot _
  rw [hnext]
  refine ⟨fun k hk => slotAfter_ne _ (by omega) (by omega), fun e he => ?flight, fun h hh => ?held,
    Nat.mod_lt _ (by omega)⟩
  case flight =>
    obtain ⟨k, hk, rfl⟩ := List.mem_iff_getElem.mp he
    have hk' : st.producer.inFlight[k].slot = slotAfter st.desc st.producerCursor k := (hlist ⟨k, hk⟩).2
    rw [hk', hslot]
    exact slotAfter_ne _ (by omega) (by omega)
  case held =>
    have hone : st.usableDepth = st.desc.depth - 1 := by
      rw [Stream.usableDepth, if_pos (Option.isSome_iff_exists.mpr ⟨h, hh⟩)]
    have hlast : h = slotAfter st.desc st.consumerCursor (st.desc.depth - 1) := by
      rw [(hheld h hh).2, slotAfter, Nat.add_sub_assoc (by omega)]
    rw [hlast]
    exact (slotAfter_ne _ (by omega) (by omega)).symm

end Slots

/-! ## Abandonment (R52, R116, R137) -/

section Abandonment

variable {s : State} {i : StreamId} {p : PortId}

/-- R52: a frame in flight is FILLING. -/
def anyFilling (list : List InFlight) : Bool := list.any fun e => e.stage == .filling

theorem anyFilling_iff (list : List InFlight) : anyFilling list = true ↔ ∃ e ∈ list, e.stage = .filling := by
  simp [anyFilling]

/-- R52, R116: the record of a stream after its frames in flight from the `keep`-th on are abandoned. -/
def Stream.abandoned (keep : Nat) (st : Stream) : Stream :=
  { st with
    producer := { st.producer with
      inFlight := st.producer.inFlight.take keep
      position := if ∃ e ∈ st.producer.inFlight.drop keep, e.stage = .filling then 0 else st.producer.position
      treatment := if ∃ e ∈ st.producer.inFlight.drop keep, e.stage = .filling then .none else st.producer.treatment }
    span := st.span.map (·.producerAbandon keep) }

/-- R52: an abandonment changes the record of its stream and that of its port. -/
theorem State.abandonProducer_eq (s : State) (i : StreamId) (p : PortId) (keep : Nat) :
    s.abandonProducer i p keep =
      (s.modStream i (Stream.abandoned keep)).modPort p fun port =>
        port.withdraw (s.binding i) (((s.stream i).producer.inFlight.drop keep).map (·.id)) := by
  rw [State.abandonProducer, State.spanProducerAbandon, State.modProducer, State.modSpan, State.modStream_modStream]
  refine congrArg (fun x : State => x.modPort p _) (State.modStream_congr ?_)
  simp only [Stream.abandoned, ← anyFilling_iff]
  rfl

/-- R116: the frame records from the `keep`-th on are dropped, and the accumulator takes the first one's checkpoint. -/
theorem SpanState.producerAbandon_of_records {sp : SpanState} {older newer : List ProducerRecord} {r : ProducerRecord}
    (h : sp.producerRecords = older ++ r :: newer) :
    sp.producerAbandon older.length = { sp with producerAcc := r.checkpoint, producerRecords := older } := by
  simp [SpanState.producerAbandon, h]

/-- R52, R137: the beats forwarded for entries of the running session, as the statements have them. -/
theorem forwardedFor_iff (s : State) (i : StreamId) (gone : List InFlight) (g : Segment) (x : SegmentBeat) :
    (g.kind == .producer && g.binding == some (s.binding i) && (gone.map (·.id)).contains x.entry) = true
      ↔ ForwardedFor s i gone g x := by
  simp [ForwardedFor, and_assoc]

/-- R52, R137: the port after the beats forwarded for the abandoned entries are withdrawn. -/
theorem Port.withdraw_eq (port : Port) (s : State) (i : StreamId) (gone : List InFlight) {removed : Nat}
    (h : removed = (port.segments.map fun g => (g.beats.filter fun x => ForwardedFor s i gone g x).length).sum) :
    port.withdraw (s.binding i) (gone.map (·.id)) =
      { port with
        segments :=
          (port.segments.map fun g => { g with beats := g.beats.filter fun x => ¬ ForwardedFor s i gone g x }).filter
            fun g => g.beats ≠ []
        newestOpen := port.newestOpen && decide (removed = 0)
        txn := port.txn.map fun t => { t with outstanding := t.outstanding - removed } } := by
  have hdoomed (g : Segment) (x : SegmentBeat) :
      (g.kind == .producer && g.binding == some (s.binding i) && (gone.map (·.id)).contains x.entry)
        = decide (ForwardedFor s i gone g x) := by
    rw [Bool.eq_iff_iff, forwardedFor_iff, decide_eq_true_iff]
  have hleft (g : Segment) : (!g.beats.isEmpty) = decide (g.beats ≠ []) := by
    cases g.beats <;> rfl
  subst h
  unfold Port.withdraw
  simp only [hdoomed, hleft]
  simp only [decide_not, beq_eq_decide]

/-- Settles O37: the two records an abandonment changes, one after the other, and that it changes no other part. -/
theorem abandonmentReturnsToTheFirstAbandonedFrame : Obligations.AbandonmentReturnsToTheFirstAbandonedFrame := by
  rintro s i p keep gone hkeep rfl
  have hrecord : (s.abandonProducer i p keep).stream i = (s.stream i).abandoned keep := by
    rw [State.abandonProducer_eq, State.modPort_stream, State.stream_modStream_self]
  have hport : (s.abandonProducer i p keep).port p =
      (s.port p).withdraw (s.binding i) (((s.stream i).producer.inFlight.drop keep).map (·.id)) := by
    rw [State.abandonProducer_eq, State.port_modPort_self, State.modStream_port]
  refine ⟨?_, fun sp older r newer hspan hrecords hlen => ?_,
    fun removed h => hport.trans (Port.withdraw_eq _ s i _ h), fun g hg => ?_, ?_, fun j hj => ?_, fun q hq => ?_, rfl⟩
  · rw [hrecord]
    rfl
  · rw [hrecord, Stream.abandoned, hspan, ← hlen]
    exact congrArg some (SpanState.producerAbandon_of_records hrecords)
  · rw [hport, Port.withdraw_eq _ s i _ rfl] at hg
    obtain ⟨hg, hne⟩ := List.mem_filter.mp hg
    obtain ⟨g, -, rfl⟩ := List.mem_map.mp hg
    refine ⟨of_decide_eq_true hne, fun hkind hbinding x hx e he heq => ?_⟩
    have hnot := of_decide_eq_true (List.mem_filter.mp hx).2
    exact hnot ⟨hkind, hbinding, e, he, heq.symm⟩
  · rw [hrecord]
    rfl
  · rw [State.abandonProducer_eq, State.modPort_stream, State.stream_modStream_ne _ hj]
  · rw [State.abandonProducer_eq, State.port_modPort_ne _ hq, State.modStream_port]

end Abandonment

end Sys2Proof.Machine

namespace Sys2Proof.Machine

open Sys2Proof Sys2Proof.Safety

/-! ## Beats out of place (R41, R42, R52) -/

section OutOfPlace

variable {s : State} {p : PortId} {i : StreamId} {t : Transaction} {st : Stream} {port : Port} {lines : Vector Line 8}
  {queue : NoticeQueue}

/-- A state whose records of one stream and one port are replaced twice has the later ones. -/
@[simp] theorem State.put_put (s : State) (i : StreamId) (p : PortId) (st st' : Stream) (port port' : Port)
    (lines lines' : Vector Line 8) (queue queue' : NoticeQueue) :
    (s.put i p st port lines queue).put i p st' port' lines' queue' = s.put i p st' port' lines' queue' := by
  simp [State.put]

/-- A state in which one port's record is replaced. -/
theorem State.set_port_eq_put (s : State) (i : StreamId) (p : PortId) (port : Port) :
    { s with ports := s.ports.set p port } = s.put i p (s.stream i) port s.lines s.queue := by
  simp [State.put, State.stream]

/-- R41, R42: the record of a stream when its producer's current frame ends early: a placed one is abandoned. -/
def Stream.frameEnded (st : Stream) : Stream :=
  if st.producer.treatment = .place then st.abandoned (st.producer.inFlight.length - 1) else st

/-- R41, R42, R137: the producer's port, the stream's record being `st`, when the current frame ends early. -/
def Port.frameEnded (port : Port) (i : StreamId) (st : Stream) : Port :=
  if st.producer.treatment = .place then
    port.withdraw (st.ring.binding i) ((st.producer.inFlight.drop (st.producer.inFlight.length - 1)).map (·.id))
  else port

/-! R52: the end of the current frame changes the in-flight list, the position, the treatment and the accumulator alone. -/

@[simp] theorem Stream.frameEnded_desc (st : Stream) : st.frameEnded.desc = st.desc := by
  unfold Stream.frameEnded
  split <;> rfl

@[simp] theorem Stream.frameEnded_state (st : Stream) : st.frameEnded.state = st.state := by
  unfold Stream.frameEnded
  split <;> rfl

@[simp] theorem Stream.frameEnded_session (st : Stream) : st.frameEnded.session = st.session := by
  unfold Stream.frameEnded
  split <;> rfl

@[simp] theorem Stream.frameEnded_committed (st : Stream) : st.frameEnded.committed = st.committed := by
  unfold Stream.frameEnded
  split <;> rfl

@[simp] theorem Stream.frameEnded_counters (st : Stream) : st.frameEnded.counters = st.counters := by
  unfold Stream.frameEnded
  split <;> rfl

@[simp] theorem Stream.frameEnded_placement (st : Stream) :
    st.frameEnded.producer.placement = st.producer.placement := by
  unfold Stream.frameEnded
  split <;> rfl

theorem State.put_abandonProducer (keep : Nat) :
    (s.put i p st port lines queue).abandonProducer i p keep =
      s.put i p (st.abandoned keep)
        (port.withdraw (st.ring.binding i) ((st.producer.inFlight.drop keep).map (·.id))) lines queue := by
  simp [State.abandonProducer_eq]

@[simp] theorem State.put_endProducerFrame :
    (s.put i p st port lines queue).endProducerFrame i p =
      s.put i p st.frameEnded (port.frameEnded i st) lines queue := by
  unfold State.endProducerFrame Stream.frameEnded Port.frameEnded
  simp only [State.put_stream]
  split
  · exact State.put_abandonProducer _
  · rfl

/-- R137: the end of the current frame lowers what the port's transaction has outstanding, whether its next beat is taken
before that or after. -/
theorem Port.frameEnded_of_txn (ht : port.txn = some t) (i : StreamId) (st : Stream) :
    ∃ n, (port.frameEnded i st).txn = some { t with outstanding := t.outstanding - n }
      ∧ Port.frameEnded { port with txn := some (beatTaken t) } i st =
        { port.frameEnded i st with txn := some (beatTaken { t with outstanding := t.outstanding - n }) } := by
  by_cases hplaced : st.producer.treatment = .place
  · simp only [Port.frameEnded, if_pos hplaced]
    exact ⟨_, congrArg (Option.map _) ht, rfl⟩
  · simp only [Port.frameEnded, if_neg hplaced]
    exact ⟨0, ht, rfl⟩

@[simp] theorem State.put_producerLoss (reason : Word) :
    (s.put i p st port lines queue).producerLoss i reason =
      s.put i p
        { st with counters := { st.counters with producerLosses := counterUp st.counters.producerLosses } } port lines
        (queue.post .place (streamSubject i) .producer reason 0#32) := by
  simp [State.producerLoss]

/-- R41: the record of a stream whose producer has lost placement, with one more loss counted. -/
def Stream.placementLost (st : Stream) : Stream :=
  { st with
    producer := { st.producer with placement := .lost, position := 0, treatment := .none }
    counters := { st.counters with producerLosses := counterUp st.counters.producerLosses } }

/-- R41, R52: a beat out of place loses placement, after the current frame has ended. -/
theorem State.put_losePlacement (reason : Word) :
    (s.put i p st port lines queue).losePlacement i p reason =
      s.put i p st.frameEnded.placementLost { port.frameEnded i st with newestOpen := false } lines
        (queue.post .place (streamSubject i) .producer reason 0#32) := by
  simp [State.losePlacement, Stream.placementLost]

/-- R42: the record of a stream between frames, with one more loss counted, an early frame start to come. -/
def Stream.betweenFrames (st : Stream) : Stream :=
  { st with
    producer := { st.producer with position := 0, treatment := .none }
    counters := { st.counters with producerLosses := counterUp st.counters.producerLosses } }

/-- R42: an early frame ends the current one, posts PLACE early, and is then a frame start. -/
theorem State.put_earlyFrame (k : Nat) (data : Word) :
    (s.put i p st port lines queue).earlyFrame i p k data =
      (s.put i p st.frameEnded.betweenFrames (port.frameEnded i st) lines
        (queue.post .place (streamSubject i) .producer placeEarly 0#32)).producerFrameStart i p k data := by
  simp [State.earlyFrame, Stream.betweenFrames]

/-- R108: the drain test changes nothing outside DRAINING. -/
theorem State.drainTest_of_not_draining (h : (s.stream i).state ≠ .draining) : s.drainTest i = s := by
  simp [State.drainTest, Stream.drained, h]

/-- R43, R108: a frame start does not begin a drain. -/
theorem State.drainTest_producerFrameStart (h : (s.stream i).state ≠ .draining) (k : Nat) (data : Word) :
    (s.producerFrameStart i p k data).drainTest i = s.producerFrameStart i p k data := by
  refine State.drainTest_of_not_draining fun hdraining => h ?_
  have hstate := (State.producerFrameStart_steady s i p k data).state i
  exact hstate.symm.trans hdraining

/-- R52: the drain test is made where a placed frame was abandoned. -/
theorem State.drainAfterAbandon_eq (s : State) (i : StreamId) (treatment : Treatment) :
    s.drainAfterAbandon i (treatment == .place) = if treatment = .place then s.drainTest i else s := by
  simp [State.drainAfterAbandon]

/-! ### What the Producer Path makes of a beat (R40 to R43) -/

theorem State.put_producerBeat_of_partial (hplace : st.producer.placement = .inStep) (k : Nat) (data : Word)
    (offset : Nat) :
    (s.put i p st port lines queue).producerBeat i p k data false offset =
      ((s.put i p st port lines queue).losePlacement i p placePartial).drainAfterAbandon i
        (st.producer.treatment == .place) := by
  simp [State.producerBeat, hplace]

theorem State.put_producerBeat_of_misplaced {offset : Nat} (hplace : st.producer.placement = .inStep)
    (hoffset : offset ≠ 0) (hposition : offset ≠ st.producer.position) (k : Nat) (data : Word) :
    (s.put i p st port lines queue).producerBeat i p k data true offset =
      ((s.put i p st port lines queue).losePlacement i p placeMisplaced).drainAfterAbandon i
        (st.producer.treatment == .place) := by
  simp [State.producerBeat, hplace, hoffset, hposition]

theorem State.put_producerBeat_of_early (hplace : st.producer.placement = .inStep) (hposition : st.producer.position ≠ 0)
    (k : Nat) (data : Word) :
    (s.put i p st port lines queue).producerBeat i p k data true 0 =
      ((s.put i p st port lines queue).earlyFrame i p k data).drainAfterAbandon i (st.producer.treatment == .place) := by
  simp [State.producerBeat, hplace, hposition.symm]

theorem State.put_producerBeat_of_lost {full : Bool} {offset : Nat} (hplace : st.producer.placement = .lost)
    (h : full = false ∨ offset ≠ 0) (k : Nat) (data : Word) :
    (s.put i p st port lines queue).producerBeat i p k data full offset =
      s.put i p st { port with newestOpen := false } lines queue := by
  rcases h with h | h <;> simp [State.producerBeat, hplace, h]

theorem State.put_producerBeat_of_absorbed {offset : Nat} (hplace : st.producer.placement = .inStep)
    (hposition : st.producer.position = offset) (hoffset : offset ≠ 0) (htreatment : st.producer.treatment = .absorb)
    (k : Nat) (data : Word) :
    (s.put i p st port lines queue).producerBeat i p k data true offset =
      s.put i p
        { st with
          producer := { st.producer with
            position := if offset + 4 = st.desc.frameBytes then 0 else offset + 4
            treatment := if offset + 4 = st.desc.frameBytes then .none else .absorb } }
        { port with newestOpen := false } lines queue := by
  simp [State.producerBeat, State.continueProducer, hplace, hposition, hoffset, htreatment, nextPosition, lastOffset]

/-! ### The statement's four parts -/

/-- The state in which a producer's current frame has ended early, as the statements have it. -/
theorem State.ended_eq_put {a : State}
    (h : a = if (s.stream i).producer.treatment = .place then
        State.abandonProducer { s with ports := s.ports.set p port } i p ((s.stream i).producer.inFlight.length - 1)
      else { s with ports := s.ports.set p port }) :
    a = s.put i p (s.stream i).frameEnded (port.frameEnded i (s.stream i)) s.lines s.queue := by
  rw [h, State.set_port_eq_put s i p port, ← State.put_endProducerFrame, State.endProducerFrame, State.put_stream]

/-- R41, R52, R108: a partial or misplaced beat of a producer in step. -/
theorem exec_writeBeat_of_lossOfPlacement {a : State} {enables : BitVec 4} {reason : Word} (hdue : ProducerBeatDue s p i t)
    (hplace : (s.stream i).producer.placement = .inStep)
    (h : (enables ≠ 0xF#4 ∧ reason = 3#32)
      ∨ (enables = 0xF#4 ∧ beatOffset s i t ≠ 0 ∧ beatOffset s i t ≠ (s.stream i).producer.position ∧ reason = 2#32))
    (data : Word)
    (ha : a = s.put i p (s.stream i).frameEnded
      (Port.frameEnded { s.port p with txn := some (beatTaken t) } i (s.stream i)) s.lines s.queue) :
    exec (.writeBeat p data enables) s =
      .next (State.settle (State.drainAfterAbandon
        (a.put i p (a.stream i).placementLost { a.port p with newestOpen := false } a.lines
          (s.queue.post .place (streamSubject i) .producer reason 0#32)) i
        ((s.stream i).producer.treatment == .place))) := by
  subst ha
  simp only [State.put_put, State.put_stream, State.put_port]
  rw [exec_writeBeat_of_producerBeatDue hdue]
  rcases h with ⟨hpartial, rfl⟩ | ⟨rfl, hoffset, hposition, rfl⟩
  · have hfull : fullBeat enables = false := by simpa [fullBeat] using hpartial
    rw [hfull, State.put_producerBeat_of_partial hplace, State.put_losePlacement]
    rfl
  · rw [fullBeat_all, State.put_producerBeat_of_misplaced hplace hoffset hposition, State.put_losePlacement]
    rfl

/-- R42: an early frame of a producer in step. -/
theorem exec_writeBeat_of_earlyFrame (hdue : ProducerBeatDue s p i t) (hplace : (s.stream i).producer.placement = .inStep)
    (hoffset : beatOffset s i t = 0) (hposition : (s.stream i).producer.position ≠ 0) (data : Word) :
    exec (.writeBeat p data 0xF#4) s =
      .next (State.settle (State.drainAfterAbandon
        ((s.put i p (s.stream i).frameEnded.betweenFrames
          (Port.frameEnded { s.port p with txn := some (beatTaken t) } i (s.stream i)) s.lines
          (s.queue.post .place (streamSubject i) .producer placeEarly 0#32)).producerFrameStart i p t.position data) i
        ((s.stream i).producer.treatment == .place))) := by
  rw [exec_writeBeat_of_producerBeatDue hdue, fullBeat_all, hoffset, State.put_producerBeat_of_early hplace hposition,
    State.put_earlyFrame]

/-- R42, R102, R107: an early frame of a producer in step, outside OPEN, is an excess frame. -/
theorem exec_writeBeat_of_earlyExcess {a : State} (hdue : ProducerBeatDue s p i t) (hopen : (s.stream i).state ≠ .opened)
    (hplace : (s.stream i).producer.placement = .inStep) (hoffset : beatOffset s i t = 0)
    (hposition : (s.stream i).producer.position ≠ 0) (data : Word)
    (ha : a = s.put i p (s.stream i).frameEnded
      (Port.frameEnded { s.port p with txn := some (beatTaken t) } i (s.stream i)) s.lines s.queue) :
    exec (.writeBeat p data 0xF#4) s =
      .next (State.settle (State.drainAfterAbandon
        (a.put i p
          { a.stream i with
            producer := frameAbsorbed (a.stream i)
            counters := { (s.stream i).counters with
              producerLosses := counterUp (s.stream i).counters.producerLosses
              excess := counterUp (s.stream i).counters.excess } }
          { a.port p with newestOpen := false } a.lines
          (NoticeQueue.excessPosted (s.queue.post .place (streamSubject i) .producer 1#32 0#32) i (s.stream i))) i
        ((s.stream i).producer.treatment == .place))) := by
  subst ha
  simp only [State.put_put, State.put_stream, State.put_port]
  have hexcess : (s.stream i).frameEnded.betweenFrames.producerDecision = .excess :=
    Stream.producerDecision_excess (.inl (by simpa [Stream.betweenFrames] using hopen))
  rw [exec_writeBeat_of_earlyFrame hdue hplace hoffset hposition, State.producerFrameStart, State.put_stream, hexcess]
  simp only
  rw [State.put_excessFrame (by simpa [Stream.betweenFrames] using hplace)]
  simp only [Stream.excessTaken, NoticeQueue.excessPosted, Stream.betweenFrames, Stream.frameEnded_counters,
    Stream.frameEnded_committed]
  rfl

/-- R42: in OPEN an early frame is the frame start it would be had the current frame ended before. -/
theorem exec_writeBeat_of_earlyStart {a : State} (hdue : ProducerBeatDue s p i t) (hopen : (s.stream i).state = .opened)
    (hplace : (s.stream i).producer.placement = .inStep) (hoffset : beatOffset s i t = 0)
    (hposition : (s.stream i).producer.position ≠ 0) (data : Word)
    (ha : a = s.put i p (s.stream i).frameEnded ((s.port p).frameEnded i (s.stream i)) s.lines s.queue) :
    exec (.writeBeat p data 0xF#4) s =
      exec (.writeBeat p data 0xF#4)
        ((a.modStream i Stream.betweenFrames).post .place (streamSubject i) .producer placeEarly 0#32) := by
  obtain ⟨⟨ht, hdir, hhold, hpos⟩, hcls, herror, hstate⟩ := id hdue
  obtain ⟨n, htxn, htaken⟩ := Port.frameEnded_of_txn ht i (s.stream i)
  subst ha
  rw [State.put_modStream, State.put_post, exec_writeBeat_of_earlyFrame hdue hplace hoffset hposition,
    State.drainAfterAbandon_eq, State.drainTest_producerFrameStart (by simp [Stream.betweenFrames, hopen]), ite_self,
    exec_writeBeat_of_frameStart (i := i) (t := { t with outstanding := t.outstanding - n })]
  · simp only [State.put_put, State.put_stream, State.put_port]
    rw [Stream.atFrameStart_of_inStep (by simpa [Stream.betweenFrames] using hplace), htaken]
    rfl
  · refine ⟨⟨by rw [State.put_port, htxn], hdir, hhold, hpos⟩, ?_, herror, ?_⟩
    · rw [State.put_binding]
      simpa [Ring.binding, Stream.betweenFrames, State.binding] using hcls
    · simpa [Stream.betweenFrames] using hstate
  · refine ⟨?_, .inr ?_⟩
    · simpa [beatOffset, Stream.betweenFrames] using hoffset
    · rw [State.put_stream]
      rfl

/-- Settles O36: in each part, what the Producer Path makes of the beat, in the state the end of the current frame has
left. -/
theorem beatsOutOfPlaceOnTheProducerPath : Obligations.BeatsOutOfPlaceOnTheProducerPath := by
  refine ⟨?lost, ?early, ?excess, fun s p i t data enables hdue =>
    ⟨fun hplace h => ?absorbedLost, fun hplace hfull htreatment hoffset hposition => ?absorbed⟩⟩
  case lost =>
    rintro s a u p i t data enables reason hdue hplace h ha rfl
    rw [exec_writeBeat_of_lossOfPlacement hdue hplace h data (State.ended_eq_put ha), State.drainAfterAbandon_eq]
    rfl
  case early =>
    rintro s a p i t data hdue hopen hplace hoffset hposition ha
    have hended : a = s.put i p (s.stream i).frameEnded ((s.port p).frameEnded i (s.stream i)) s.lines s.queue := by
      rw [← State.put_endProducerFrame, s.put_self i p, ha]
      rfl
    have hqueue : s.queue = a.queue := by rw [hended]; rfl
    rw [exec_writeBeat_of_earlyStart hdue hopen hplace hoffset hposition data hended, hqueue]
    rfl
  case excess =>
    rintro s a u p i t data hdue hopen hplace hoffset hposition ha rfl
    rw [exec_writeBeat_of_earlyExcess hdue hopen hplace hoffset hposition data (State.ended_eq_put ha),
      State.drainAfterAbandon_eq]
    rfl
  case absorbedLost =>
    have h' : fullBeat enables = false ∨ beatOffset s i t ≠ 0 := h.imp_left fun hp => by simpa [fullBeat] using hp
    rw [exec_writeBeat_of_producerBeatDue hdue, State.put_producerBeat_of_lost hplace h', ← State.set_port_eq_put]
    rfl
  case absorbed =>
    subst hfull
    rw [exec_writeBeat_of_producerBeatDue hdue, fullBeat_all,
      State.put_producerBeat_of_absorbed hplace hposition hoffset htreatment]
    rfl

end OutOfPlace

end Sys2Proof.Machine

namespace Sys2Proof.Machine

open Sys2Proof Sys2Proof.Safety

/-! ## The result of a write segment (R49, R53, R54, R139, R140) -/

section WriteResults

variable {s x : State} {i : StreamId} {p : PortId} {g : Granted} {r : BusStatus} {beats rest : List SegmentBeat}
  {y : SegmentBeat}

/-- R139: the result of the write segment on the memory port is applied, and the port becomes FREE. -/
theorem exec_memoryWriteCompletion_of_segment (hm : s.memory = some g) (hready : g.writeReady = true) (r : BusStatus) :
    exec (.memoryWriteCompletion r) s = .next (s.writeResult g r).settle.freeMemory := by
  have hexec : exec (.memoryWriteCompletion r) s = execMemoryWriteCompletion r s := rfl
  simp [hexec, execMemoryWriteCompletion, hm, hready]

/-- R139, R140: the state after the port that owns the write segment has taken its result, a discarded one as ERROR. -/
def State.resultTaken (s : State) (g : Granted) (r : BusStatus) : State :=
  s.modPort g.owner fun port =>
    { port with
      txn := port.txn.map fun t =>
        { t with
          outstanding := t.outstanding - g.segment.beats.length
          anyError := t.anyError || decide (r = .error) || g.discarded } }

theorem State.completeSegment_eq (s : State) (g : Granted) (r : BusStatus) :
    (s.modTxn g.owner fun t => t.completeSegment g.segment.beats.length (if g.discarded then .error else r))
      = s.resultTaken g r := by
  have ht (t : Transaction) :
      t.completeSegment g.segment.beats.length (if g.discarded then .error else r) =
        { t with
          outstanding := t.outstanding - g.segment.beats.length
          anyError := t.anyError || decide (r = .error) || g.discarded } := by
    cases hd : g.discarded <;> simp [Transaction.completeSegment, beq_eq_decide]
  simp only [ht]
  rfl

/-- R140: a plain, PASS or discarded result reaches no path. -/
theorem State.writeResult_of_no_path (h : g.discarded = true ∨ g.segment.kind = .plain ∨ g.segment.kind = .pass) :
    s.writeResult g r = s.resultTaken g r := by
  rw [← State.completeSegment_eq]
  unfold State.writeResult
  rcases h with h | h | h
  · simp only [h, Bool.true_or, if_true]
    split <;> rfl
  · simp only [h]
  · simp only [h]

/-- R139: the result of a producer segment of the running session reaches its Producer Path. -/
theorem State.writeResult_of_producer (hdiscarded : g.discarded = false) (hkind : g.segment.kind = .producer)
    (hbinding : g.segment.binding = some (s.binding i)) (hopen : (s.stream i).state ≠ .closed) :
    s.writeResult g r =
      match r with
      | .okay => (s.resultTaken g r).producerOkay i g.segment.beats
      | .error => (s.resultTaken g r).producerError i g.owner g.segment.beats := by
  rw [← State.completeSegment_eq]
  unfold State.writeResult
  simp only [hkind, hbinding, hdiscarded, State.live_binding hopen]
  cases r <;> rfl

/-! ### An ERROR completion -/

/-- R54: with no frame of the segment still in flight, the MEMFAULT alone remains. -/
theorem State.producerError_of_none_in_flight
    (h : ∀ y ∈ beats, ∀ f ∈ (s.stream i).producer.inFlight, y.entry ≠ f.id) (hbeats : beats = y :: rest) :
    s.producerError i p beats = s.memfault i .producer y.frame := by
  have hnone : ((s.stream i).producer.inFlight.findIdx? fun f => beats.any fun x => x.entry == f.id) = none :=
    List.findIdx?_eq_none_iff.mpr fun f hf => by simpa using fun y hy => h y hy f hf
  simp only [State.producerError, hnone]
  subst hbeats
  rfl

/-- R53: the frames from the oldest one the segment carries are abandoned, and the steps of the event follow. -/
theorem State.producerError_of_oldest {older newer : List InFlight} {e : InFlight}
    (hlist : (s.stream i).producer.inFlight = older ++ e :: newer) (hentry : ∃ y ∈ beats, y.entry = e.id)
    (holder : ∀ y ∈ beats, ∀ f ∈ older, y.entry ≠ f.id) :
    s.producerError i p beats =
      (((((s.abandonProducer i p older.length).memfault i .producer e.index).loseByError i
        (anyFilling (e :: newer))).roomEvent i).drainTest i) := by
  have hfound : ((s.stream i).producer.inFlight.findIdx? fun f => beats.any fun x => x.entry == f.id)
      = some older.length := by
    rw [hlist, List.findIdx?_append, List.findIdx?_eq_none_iff.mpr fun f hf => by simpa using fun y hy => holder y hy f hf]
    simpa [List.findIdx?_cons] using hentry
  have hgone : (s.stream i).producer.inFlight.drop older.length = e :: newer := by rw [hlist, List.drop_left]
  simp only [State.producerError, hfound, hgone]
  rfl

/-- R53: the record of a stream after a memory error of its producer is counted; placement is lost with a FILLING frame. -/
def Stream.errorTaken (gone : List InFlight) (st : Stream) : Stream :=
  { st with
    producer :=
      if ∃ f ∈ gone, f.stage = .filling then
        { st.producer with placement := .lost, position := 0, treatment := .none }
      else st.producer
    counters := { st.counters with memoryFaults := counterUp st.counters.memoryFaults } }

/-- A notice and a change of a producer side may be taken in either order. -/
theorem State.modProducer_post (s : State) (i : StreamId) (f : ProducerSide → ProducerSide) (kind : NoticeKind)
    (subject : Byte) (side : NoticeSide) (value1 value2 : Word) :
    (s.post kind subject side value1 value2).modProducer i f =
      (s.modProducer i f).post kind subject side value1 value2 := rfl

/-- R53: the MEMFAULT, its counter, and the loss of placement. -/
theorem State.loseByError_memfault (s : State) (i : StreamId) (frame : Word) (gone : List InFlight) :
    (s.memfault i .producer frame).loseByError i (anyFilling gone) =
      (s.modStream i (Stream.errorTaken gone)).post .memfault (streamSubject i) .producer frame 0#32 := by
  have hcount : s.memfault i .producer frame =
      (s.modStream i fun st =>
        { st with counters := { st.counters with memoryFaults := counterUp st.counters.memoryFaults } }).post
          .memfault (streamSubject i) .producer frame 0#32 := rfl
  unfold State.loseByError Stream.errorTaken
  by_cases hfilling : ∃ f ∈ gone, f.stage = .filling
  · rw [if_pos ((anyFilling_iff gone).mpr hfilling), hcount]
    rw [State.modProducer_post, State.modProducer, State.modStream_modStream]
    simp only [if_pos hfilling]
  · rw [if_neg (mt (anyFilling_iff gone).mp hfilling), hcount]
    simp only [if_neg hfilling]

/-- Settles O47: the result is taken by its port, and then goes to no path, or to the Producer Path of its session. -/
theorem writeResultGoesWhereItsKindSays : Obligations.WriteResultGoesWhereItsKindSays := by
  rintro s x i g r older newer e hm hready hx
  have hx : x = s.resultTaken g r := hx
  rw [exec_memoryWriteCompletion_of_segment hm hready]
  refine ⟨fun h => by rw [State.writeResult_of_no_path h, hx], fun hdiscarded hkind hbinding hopen hr => ?_⟩
  have hresult := State.writeResult_of_producer (r := r) hdiscarded hkind hbinding hopen
  subst hr
  rw [hresult, ← hx]
  have hstream : x.stream i = s.stream i := hx ▸ rfl
  have hqueue : x.queue = s.queue := hx ▸ rfl
  refine ⟨fun hnone y rest hbeats => ?_, fun hlist hentry holder a ha => ?_⟩
  · rw [← hstream] at hnone
    simp only
    rw [State.producerError_of_none_in_flight hnone hbeats, ← hqueue]
    rfl
  · rw [← hstream] at hlist
    simp only
    rw [State.producerError_of_oldest hlist hentry holder, ← ha, State.loseByError_memfault]
    have hqueue' : a.queue = s.queue := by rw [ha, ← hqueue]; rfl
    rw [← hqueue']
    rfl

end WriteResults

end Sys2Proof.Machine

namespace Sys2Proof.Machine

open Sys2Proof Sys2Proof.Safety

/-! ## What a commit hands on leaves of the stream (R49, R81, R89)

A commit raises P and advances the producer cursor. What it then hands on, down to the release or the decision of a waiting
read, changes no count and no other stream, and takes no frame out of the in-flight list. -/

/-- R5: the descriptor, P, C and the producer cursor of a stream. -/
def Stream.account (st : Stream) : Descriptor × Word × Word × Nat :=
  (st.desc, st.committed, st.consumed, st.producerCursor)

/-- The identities of the frames in flight, oldest first. -/
def Stream.flight (st : Stream) : List Nat := st.producer.inFlight.map (·.id)

/-- From the records `x` to `y`, no stream but stream `i` changes, and of stream `i` the counts stay and no frame in flight
goes. -/
structure Undisturbed (i : StreamId) (x y : Vector Stream 16) : Prop where
  others : ∀ j : StreamId, j ≠ i → y[j] = x[j]
  account : y[i].account = x[i].account
  flight : x[i].flight <+: y[i].flight

/-- R47: a forwarded beat leaves the identities of the frames in flight. -/
theorem map_id_forwardNewest (list : List InFlight) (last : Bool) :
    (forwardNewest list last).map (·.id) = list.map (·.id) := by
  rcases List.eq_nil_or_concat list with rfl | ⟨older, e, rfl⟩
  · rfl
  · simp [forwardNewest]

namespace Undisturbed

variable {s : State} {i : StreamId} {p : PortId} {k : Nat} {x y : Vector Stream 16}

theorem refl (i : StreamId) (x : Vector Stream 16) : Undisturbed i x x := ⟨fun _ _ => rfl, rfl, List.prefix_refl _⟩

/-- A change of stream `i` that keeps the counts and takes no frame out of the list. -/
theorem modStream {f : Stream → Stream} (h : Undisturbed i x s.streams)
    (haccount : (f (s.stream i)).account = (s.stream i).account)
    (hflight : (s.stream i).flight <+: (f (s.stream i)).flight) : Undisturbed i x (s.modStream i f).streams := by
  have hself : (s.modStream i f).streams[i] = f (s.stream i) := State.stream_modStream_self s i f
  refine ⟨fun j hj => (State.stream_modStream_ne s hj f).trans (h.others j hj), ?_, ?_⟩
  · rw [hself, haccount]
    exact h.account
  · rw [hself]
    exact h.flight.trans hflight

/-- A change of the consumer side disturbs nothing. -/
theorem modConsumer (h : Undisturbed i x s.streams) (f : ConsumerSide → ConsumerSide) :
    Undisturbed i x (s.modConsumer i f).streams :=
  h.modStream rfl (List.prefix_refl _)

theorem modSpan (h : Undisturbed i x s.streams) (f : SpanState → SpanState) :
    Undisturbed i x (s.modSpan i f).streams :=
  h.modStream rfl (List.prefix_refl _)

theorem count (h : Undisturbed i x s.streams) (f : Counters → Counters) : Undisturbed i x (s.count i f).streams :=
  h.modStream rfl (List.prefix_refl _)

theorem setProducerPhase (h : Undisturbed i x s.streams) (ph : ProducerPhase) :
    Undisturbed i x (s.setProducerPhase i ph).streams :=
  h.modStream rfl (List.prefix_refl _)

/-- What changes the ports alone disturbs no stream. -/
theorem modTxn (h : Undisturbed i x s.streams) (f : Transaction → Transaction) :
    Undisturbed i x (s.modTxn p f).streams := h

theorem answerBeat (h : Undisturbed i x s.streams) (r : Response) : Undisturbed i x (s.answerBeat p k r).streams := h

theorem post (h : Undisturbed i x s.streams) (kind : NoticeKind) (subject : Byte) (side : NoticeSide)
    (value1 value2 : Word) : Undisturbed i x (s.post kind subject side value1 value2).streams := h

theorem paceDrop (h : Undisturbed i x s.streams) (side : Side) : Undisturbed i x (s.paceDrop i side).streams := h

theorem paceTest (h : Undisturbed i x s.streams) : Undisturbed i x (s.paceTest i).streams := h

theorem paceFrameStart (h : Undisturbed i x s.streams) (side : Side) :
    Undisturbed i x (s.paceFrameStart i side).streams := h

theorem setConsumerPhase (h : Undisturbed i x s.streams) (ph : ConsumerPhase) :
    Undisturbed i x (s.setConsumerPhase i ph).streams :=
  h.modConsumer _

theorem forward (h : Undisturbed i x s.streams) (kind : SegmentKind) (dir : Dir) (addr : Word) (b : Binding)
    (beat : SegmentBeat) : Undisturbed i x (s.forward p kind dir addr b beat).streams :=
  (State.forward_streams ..).symm ▸ h

/-! ### The release of a held write (R65) -/

theorem forwardPlaced (h : Undisturbed i x s.streams) (data : Word) (offset : Nat) :
    Undisturbed i x (s.forwardPlaced i p k data offset).streams := by
  unfold State.forwardPlaced
  dsimp only
  split
  · exact h
  · refine forward (modSpan (modStream h rfl ?_) _) ..
    simp only [Stream.flight, map_id_forwardNewest]
    exact List.prefix_refl _

theorem enterFrame (h : Undisturbed i x s.streams) : Undisturbed i x (s.enterFrame i).streams := by
  refine modSpan (modStream h rfl ?_) _
  simp [Stream.flight]

/-- R65: a room event may place a held frame, the newest then in flight. -/
theorem roomEvent (h : Undisturbed i x s.streams) : Undisturbed i x (s.roomEvent i).streams := by
  unfold State.roomEvent
  dsimp only
  split
  · split
    · split
      · have hphase := h.setProducerPhase .flowing
        have hframe := enterFrame (s := (s.setProducerPhase i .flowing).endHold (s.stream i).desc.producerPort) hphase
        exact forwardPlaced (by exact hframe) ..
      · exact h
    · exact h
  · exact h

/-! ### The verdict on a waiting read (R80) -/

theorem forwardReal (h : Undisturbed i x s.streams) (offset : Nat) :
    Undisturbed i x (s.forwardReal i p k offset).streams := by
  unfold State.forwardReal
  dsimp only
  split
  · exact h
  · exact forward (modTxn (modConsumer h _) _) ..

theorem startReal (h : Undisturbed i x s.streams) : Undisturbed i x (s.startReal i p k).streams :=
  forwardReal (paceFrameStart (modSpan (modConsumer h _) _) _) 0

theorem fillFrame (h : Undisturbed i x s.streams) : Undisturbed i x (s.fillFrame i p k).streams := by
  have hcounted := ((h.modConsumer fun cs => { cs with tally := tallyUp cs.tally, verdict := .fill }).count
    fun c => { c with filled := counterUp c.filled })
  unfold State.fillFrame State.fillBeat
  dsimp only
  split
  · exact answerBeat (modConsumer hcounted _) _
  · exact answerBeat (modConsumer hcounted _) _
  · split
    · exact forward (modConsumer hcounted _) ..
    · exact answerBeat (modConsumer hcounted _) _

theorem beginUnderrun (h : Undisturbed i x s.streams) : Undisturbed i x (s.beginUnderrun i).streams := by
  refine paceDrop (modStream (post (modStream h ?_ ?_) ..) ?_ ?_) _
  · rfl
  · exact List.prefix_refl _
  · split <;> rfl
  · split <;> exact List.prefix_refl _

theorem releaseHeldSlot (h : Undisturbed i x s.streams) : Undisturbed i x (s.releaseHeldSlot i).streams := by
  unfold State.releaseHeldSlot
  dsimp only
  split
  · exact paceTest (roomEvent (modConsumer h _))
  · exact h.modConsumer _

theorem resumeUnderrun (h : Undisturbed i x s.streams) : Undisturbed i x (s.resumeUnderrun i p k).streams :=
  startReal (by exact h.releaseHeldSlot.setConsumerPhase .flowing)

/-- R80: a consumer frame start disturbs nothing on the producer side but that a held write may be released. -/
theorem consumerFrameStart (h : Undisturbed i x s.streams) : Undisturbed i x (s.consumerFrameStart i p k).streams := by
  unfold State.consumerFrameStart
  split
  · exact h
  · exact h.startReal
  · exact h
  · exact h.beginUnderrun.fillFrame
  · exact h.setConsumerPhase .waiting
  · exact h.resumeUnderrun
  · exact h.fillFrame

/-- R81, R89: what a commit does for the consumer read disturbs nothing. -/
theorem commitReachesConsumer (h : Undisturbed i x s.streams) :
    Undisturbed i x (s.commitReachesConsumer i).streams := by
  unfold State.commitReachesConsumer State.releaseWaiting State.decideDeferred
  dsimp only
  split
  · split
    · split
      · exact startReal (by exact h.setConsumerPhase .flowing)
      · exact h
    · exact h
  · split
    · split
      · exact consumerFrameStart (by exact h)
      · exact h
    · exact h

theorem budgetTest (h : Undisturbed i x s.streams) : Undisturbed i x (s.budgetTest i).streams := by
  unfold State.budgetTest
  dsimp only
  split
  · split
    · next n _ =>
      exact h.modStream (f := fun st => { st with budgetNow := st.budgetNow + n, extension := none }) rfl
        (List.prefix_refl _)
    · exact h.setProducerPhase .done
  · exact h

/-- R49: a commit is the commit of the record, and what it hands on. -/
theorem commit (s : State) (i : StreamId) :
    Undisturbed i (s.modStream i Stream.commitOldest).streams (s.commit i).streams :=
  commitReachesConsumer (budgetTest (by exact modSpan (refl i _) _))

end Undisturbed

end Sys2Proof.Machine

namespace Sys2Proof.Machine

open Sys2Proof Sys2Proof.Safety

/-! ## The counts after an OKAY completion (R49, R50) -/

/-- R49: the counts of a stream after `n` commits. -/
def Stream.accountAfter (st : Stream) (n : Nat) : Descriptor × Word × Word × Nat :=
  (st.desc, st.committed + BitVec.ofNat 32 n, st.consumed, (st.producerCursor + n) % st.desc.depth)

/-- R4: the producer cursor names a slot of the ring. -/
def Stream.CursorInRing (st : Stream) : Prop := st.producerCursor < st.desc.depth

section Counts

variable {s : State} {i : StreamId} {st st' : Stream} {y : SegmentBeat} {beats rest : List SegmentBeat} {m n : Nat}

theorem Stream.accountAfter_zero (h : st.CursorInRing) : st.accountAfter 0 = st.account := by
  simp [Stream.accountAfter, Stream.account, Nat.mod_eq_of_lt h]

/-- Commits after commits. -/
theorem Stream.accountAfter_add (h : st'.account = st.accountAfter m) : st'.accountAfter n = st.accountAfter (m + n) := by
  obtain ⟨hdesc, hcommitted, hconsumed, hcursor⟩ := by simpa [Stream.account, Stream.accountAfter] using h
  simp [Stream.accountAfter, hdesc, hcommitted, hconsumed, hcursor, BitVec.ofNat_add, BitVec.add_assoc, Nat.add_assoc]

theorem Stream.CursorInRing.after (h : st.CursorInRing) (hst : st'.account = st.accountAfter m) : st'.CursorInRing := by
  obtain ⟨hdesc, -, -, hcursor⟩ := by simpa [Stream.account, Stream.accountAfter] using hst
  rw [Stream.CursorInRing, hdesc, hcursor]
  exact Nat.mod_lt _ (Nat.zero_lt_of_lt h)

/-- R49: the record's part of a commit counts one frame. -/
theorem Stream.account_commitOldest (h : st.CursorInRing) : st.commitOldest.account = st.accountAfter 1 := by
  simp [Stream.account, Stream.commitOldest, Stream.accountAfter, nextSlot_eq h]

theorem Stream.flight_commitOldest (st : Stream) : st.commitOldest.flight = st.flight.drop 1 := by
  simp [Stream.flight, Stream.commitOldest]

/-- The record after one of its beats has completed (R47). -/
def Stream.beatCompleted (y : SegmentBeat) (st : Stream) : Stream :=
  { st with producer := { st.producer with inFlight := completeBeat st.producer.inFlight y.entry } }

theorem Stream.flight_beatCompleted (y : SegmentBeat) (st : Stream) : (st.beatCompleted y).flight = st.flight := by
  simp only [Stream.flight, Stream.beatCompleted, completeBeat, List.map_map]
  refine List.map_congr_left fun e _ => ?_
  simp only [Function.comp_apply]
  split <;> rfl

/-- R49: a beat that is the last of a frame in flight commits it. -/
theorem State.beatOkay_of_last (hlast : y.last = true) (hmem : y.entry ∈ (s.stream i).flight) :
    s.beatOkay i y = (s.modStream i (Stream.beatCompleted y)).commit i := by
  obtain ⟨e, he, hid⟩ := List.mem_map.mp hmem
  have hany : ((s.stream i).producer.inFlight.any fun e => e.id == y.entry) = true :=
    List.any_eq_true.mpr ⟨e, he, beq_iff_eq.mpr hid⟩
  simp only [State.beatOkay, hlast, hany]
  rfl

/-- R47: any other beat only completes. -/
theorem State.beatOkay_of_not_last (h : y.last = false ∨ y.entry ∉ (s.stream i).flight) :
    s.beatOkay i y = s.modStream i (Stream.beatCompleted y) := by
  have hnot : (y.last && (s.stream i).producer.inFlight.any fun e => e.id == y.entry) = false := by
    rcases h with hlast | hmem
    · rw [hlast, Bool.false_and]
    · have hany : ((s.stream i).producer.inFlight.any fun e => e.id == y.entry) = false :=
        List.any_eq_false.mpr fun e he hid => hmem (List.mem_map.mpr ⟨e, he, beq_iff_eq.mp hid⟩)
      rw [hany, Bool.and_false]
  simp only [State.beatOkay, hnot]
  rfl

theorem State.producerOkay_cons (s : State) (i : StreamId) (y : SegmentBeat) (rest : List SegmentBeat) :
    s.producerOkay i (y :: rest) = (s.beatOkay i y).producerOkay i rest := rfl

/-- What `n` commits leave: no other stream changes, and the counts of stream `i` are those after them. -/
structure State.Counted (s : State) (i : StreamId) (n : Nat) (t : State) : Prop where
  others : ∀ j, j ≠ i → t.stream j = s.stream j
  account : (t.stream i).account = (s.stream i).accountAfter n

theorem State.Counted.trans {t u : State} (h : s.Counted i m t) (h' : t.Counted i n u) : s.Counted i (m + n) u :=
  ⟨fun j hj => (h'.others j hj).trans (h.others j hj), h'.account.trans (Stream.accountAfter_add h.account)⟩

/-- R47: a beat that commits nothing counts nothing. -/
theorem State.counted_modStream (h : (s.stream i).CursorInRing) (y : SegmentBeat) :
    s.Counted i 0 (s.modStream i (Stream.beatCompleted y)) :=
  ⟨fun _ hj => State.stream_modStream_ne s hj _, by
    rw [State.stream_modStream_self, Stream.accountAfter_zero h]
    rfl⟩

/-- R49: a commit counts one frame, and the later ones stay in flight, in their order. -/
theorem State.counted_commit (h : (s.stream i).CursorInRing) (y : SegmentBeat) :
    s.Counted i 1 ((s.modStream i (Stream.beatCompleted y)).commit i)
      ∧ (s.stream i).flight.drop 1 <+: (((s.modStream i (Stream.beatCompleted y)).commit i).stream i).flight := by
  have hkept := Undisturbed.commit (s.modStream i (Stream.beatCompleted y)) i
  rw [State.modStream_modStream] at hkept
  have hself : (s.modStream i fun st => (st.beatCompleted y).commitOldest).streams[i]
      = ((s.stream i).beatCompleted y).commitOldest := State.stream_modStream_self s i _
  refine ⟨⟨fun j hj => (hkept.others j hj).trans (State.stream_modStream_ne s hj _), ?_⟩, ?_⟩
  · refine hkept.account.trans ?_
    rw [hself]
    exact Stream.account_commitOldest (st := (s.stream i).beatCompleted y) h
  · have hflight := hkept.flight
    rwa [hself, Stream.flight_commitOldest, Stream.flight_beatCompleted] at hflight

/-- R49, R50: where the beats that end a frame end the oldest frames in flight, one after another, each commits its frame. -/
theorem State.counted_producerOkay (h : (s.stream i).CursorInRing)
    (hends : (beats.filter (·.last)).map (·.entry) <+: (s.stream i).flight) :
    s.Counted i (beats.filter (·.last)).length (s.producerOkay i beats) := by
  induction beats generalizing s with
  | nil => exact ⟨fun _ _ => rfl, (Stream.accountAfter_zero h).symm⟩
  | cons y rest ih =>
    rw [State.producerOkay_cons]
    cases hlast : y.last with
    | true =>
      rw [List.filter_cons_of_pos hlast, List.map_cons] at hends
      obtain ⟨later, hlater⟩ := hends
      have hmem : y.entry ∈ (s.stream i).flight := by simp [← hlater]
      obtain ⟨hcount, hflight⟩ := State.counted_commit h y
      rw [State.beatOkay_of_last hlast hmem, List.filter_cons_of_pos hlast, List.length_cons, Nat.add_comm]
      refine hcount.trans (ih (h.after hcount.account) (List.IsPrefix.trans ⟨later, ?_⟩ hflight))
      simp [← hlater]
    | false =>
      have hnot : ¬ y.last = true := by simp [hlast]
      rw [List.filter_cons_of_neg hnot] at hends ⊢
      have hcount := State.counted_modStream h y
      rw [State.beatOkay_of_not_last (.inl hlast), ← Nat.zero_add (rest.filter _).length]
      refine hcount.trans (ih (h.after hcount.account) ?_)
      rwa [State.stream_modStream_self, Stream.flight_beatCompleted]

end Counts

end Sys2Proof.Machine

namespace Sys2Proof.Machine

open Sys2Proof Sys2Proof.Safety

/-! ## No REAL beat is due after an OKAY completion (R23, R81)

Between two commands no response is due. A commit answers a response only where it decides a deferred beat, the newest of
its read and not a REAL one; where that response heads the list, the read owes no other. What is then returned upstream
reaches no Consumer Path, so the return leaves every stream. -/

/-- R23, R81: no REAL beat of the transaction is due, and the decision of a deferred beat of it makes none due. -/
structure Transaction.Calm (t : Transaction) : Prop where
  ordered : t.dir = .read → t.Ordered
  write : t.dir = .write → t.responses = []
  head : (∀ x ∈ t.responses.head?, x.value = none)
    ∨ t.deferred = false ∧ t.hold = none ∧ ∀ x ∈ t.responses, x.mark = none

/-- A rule on transactions that what a commit does for a consumer read keeps (R81, R89). -/
structure TxnCommitted (T : PortId → Transaction → Prop) : Prop extends TxnWorked T where
  undefer : ∀ {p t}, T p t → T p { t with deferred := false }
  decided : ∀ {p t}, T p t → t.deferred = true → Startable T p (t.position - 1) { t with deferred := false }
  answered : ∀ {p t} r, T p t → t.deferred = true →
    T p (Transaction.answer { t with deferred := false } (t.position - 1) r)
  released : ∀ {p t} m, T p t → t.hold ≠ none → T p (Transaction.markReal { t with hold := none } (t.position - 1) m)

namespace TxnCommitted

variable {Q : Prop} {T : PortId → Transaction → Prop} {s : State} {i : StreamId} {p : PortId} {k : Nat}

theorem answerBeat_form (h : s.desk.Form Q T) (r : Response)
    (hanswer : ∀ t, (s.port p).txn = some t → ∀ r, T p (t.answer k r)) : (s.answerBeat p k r).desk.Form Q T :=
  State.closeSegment_form (h.modTxn fun t ht _ => hanswer t ht r)

theorem fillFrame_form (K : TxnCommitted T) (h : s.desk.Form Q T)
    (hanswer : ∀ t, (s.port p).txn = some t → ∀ r, T p (t.answer k r)) : (s.fillFrame i p k).desk.Form Q T := by
  unfold State.fillFrame State.fillBeat
  dsimp only
  split
  · exact answerBeat_form (by exact h) _ hanswer
  · exact answerBeat_form (by exact h) _ hanswer
  · split
    · exact State.forward_form K.toTxnWorked (by exact h) ..
    · exact answerBeat_form (by exact h) _ hanswer

/-- R80: a consumer frame start keeps the form where its beat may be forwarded, held, deferred and answered. -/
theorem consumerFrameStart_form (K : TxnCommitted T) (h : s.desk.Form Q T)
    (hstart : ∀ t, (s.port p).txn = some t → Startable T p k t)
    (hanswer : ∀ t, (s.port p).txn = some t → ∀ r, T p (t.answer k r)) :
    (s.consumerFrameStart i p k).desk.Form Q T := by
  have hreal := fun t ht => (hstart t ht).real
  unfold State.consumerFrameStart
  split
  · exact answerBeat_form h _ hanswer
  · exact State.startReal_form K.toTxnWorked h k hreal
  · exact h.modTxn fun t ht _ => (hstart t ht).defer
  · exact K.fillFrame_form (by exact h) hanswer
  · exact State.waitFrame_form h fun t ht => (hstart t ht).wait
  · exact State.resumeUnderrun_form K.toTxnWorked h k hreal
  · exact K.fillFrame_form h hanswer

/-- R81: the decision of a deferred beat keeps the form. -/
theorem decideDeferred_form (K : TxnCommitted T) (h : s.desk.Form Q T) : (s.decideDeferred i).desk.Form Q T := by
  unfold State.decideDeferred
  dsimp only
  split
  · next t ht =>
    have ht := State.txn_of_consumerTxn ht
    split
    · next hdef =>
      refine K.consumerFrameStart_form (h.modTxn fun _ _ hT => K.undefer hT) (fun t' ht' => ?_) fun t' ht' r => ?_
      · obtain rfl : _ = t' := by simpa [ht] using ht'
        exact K.decided (h.txn _ t ht) hdef
      · obtain rfl : _ = t' := by simpa [ht] using ht'
        exact K.answered r (h.txn _ t ht) hdef
    · exact h
  · exact h

/-- R89: the release of a held read keeps the form. -/
theorem releaseWaiting_form (K : TxnCommitted T) (h : s.desk.Form Q T) : (s.releaseWaiting i).desk.Form Q T := by
  unfold State.releaseWaiting
  dsimp only
  split
  · next t ht =>
    have ht := State.txn_of_consumerTxn ht
    split
    · next hold hh =>
      refine State.startReal_form K.toTxnWorked (State.endHold_form K.toTxnWorked (by exact h)) _ fun t' ht' m => ?_
      obtain rfl : _ = t' := by simpa [State.endHold, State.setConsumerPhase, ht] using ht'
      exact K.released m (h.txn _ t ht) (by simp [hh])
    · exact h
  · exact h

/-- R49: a commit keeps the form. -/
theorem commit_form (K : TxnCommitted T) (h : s.desk.Form Q T) : (s.commit i).desk.Form Q T := by
  have htested :
      ((((s.modStream i Stream.commitOldest).spanCommit i).paceCount i .producer).budgetTest i).desk.Form Q T := by
    rw [State.budgetTest_desk]
    exact h
  unfold State.commit State.commitReachesConsumer
  dsimp only
  split
  · exact K.releaseWaiting_form htested
  · exact K.decideDeferred_form htested

/-- R50: so does an OKAY completion. -/
theorem producerOkay_form (K : TxnCommitted T) (h : s.desk.Form Q T) (beats : List SegmentBeat) :
    (s.producerOkay i beats).desk.Form Q T := by
  induction beats generalizing s with
  | nil => exact h
  | cons y rest ih =>
    rw [State.producerOkay_cons]
    refine ih ?_
    unfold State.beatOkay
    dsimp only
    split
    · exact K.commit_form (by exact h)
    · exact h

end TxnCommitted

namespace Transaction

variable {t : Transaction}

/-- R23, R81: a deferred read that owes the newest beat first owes that beat alone. -/
theorem Ordered.newest_alone {x : ResponseSlot} {rest : List ResponseSlot} (h : t.Ordered) (hx : t.responses = x :: rest)
    (hnewest : x.beat = t.position - 1) : rest = [] := by
  cases hrest : rest with
  | nil => rfl
  | cons z later =>
    have hascending := h.ascending
    have htaken := h.taken z.beat (by simp [hx, hrest])
    simp only [hx, hrest, List.map_cons, List.pairwise_cons, List.mem_cons] at hascending
    have hless := hascending.1 z.beat (.inl rfl)
    omega

/-- R23: a mark leaves what is known of the first response owed. -/
theorem head_markReal (t : Transaction) (k : Nat) (m : RealMark) (h : ∀ x ∈ t.responses.head?, x.value = none) :
    ∀ x ∈ (t.markReal k m).responses.head?, x.value = none := by
  intro x hx
  cases hr : t.responses with
  | nil => simp [markReal, hr] at hx
  | cons y rest =>
    obtain rfl : (if y.beat = k then { y with mark := some m } else y) = x := by simpa [markReal, hr] using hx
    have hy := h y (by simp [hr])
    split <;> exact hy

/-- R81: the first response of a deferred read in form is not known. -/
theorem Calm.unknown (h : t.Calm) (hwaits : t.deferred = true ∨ t.hold ≠ none) :
    ∀ x ∈ t.responses.head?, x.value = none := by
  refine h.head.resolve_right fun ⟨hdef, hhold, _⟩ => ?_
  simp [hdef, hhold] at hwaits

/-- R81: the decision of a deferred beat makes no REAL beat due. -/
theorem Calm.answered (h : t.Calm) (hdef : t.deferred = true) (r : Response) :
    (Transaction.answer { t with deferred := false } (t.position - 1) r).Calm where
  ordered hd := Transaction.ordered_taken.answer (p := 0) _ r (Transaction.ordered_taken.undefer (p := 0) h.ordered) hd
  write hd := by simp [answer, h.write hd]
  head := by
    cases hdir : t.dir with
    | write => exact .inl (by simp [answer, h.write hdir])
    | read =>
      have hord := h.ordered hdir
      cases hx : t.responses with
      | nil => exact .inl (by simp [answer])
      | cons x rest =>
        by_cases hnewest : x.beat = t.position - 1
        · obtain rfl := hord.newest_alone hx hnewest
          obtain ⟨hhold, hmark⟩ := hord.deferred hdef
          have htaken := hord.taken x.beat (by simp [hx])
          have hxmark := hmark x (by simp [hx]) (by omega)
          exact .inr ⟨rfl, hhold, by simp [answer, hnewest, hxmark]⟩
        · refine .inl fun z hz => ?_
          obtain rfl : x = z := by simpa [answer, hx, hnewest] using hz
          exact h.unknown (.inl hdef) x (by simp [hx])

/-- R23, R81: what a commit does for a consumer read keeps its calm. -/
theorem calm_committed : TxnCommitted fun _ t => t.Calm where
  work n e h := ⟨fun hd => Transaction.ordered_taken.work (p := 0) n e h.ordered hd, h.write, h.head⟩
  release h :=
    ⟨fun hd => Transaction.ordered_taken.release (p := 0) h.ordered hd, h.write,
      h.head.imp_right fun ⟨hdef, _, hmark⟩ => ⟨hdef, rfl, hmark⟩⟩
  undefer h :=
    ⟨fun hd => Transaction.ordered_taken.undefer (p := 0) h.ordered hd, h.write,
      h.head.imp_right fun ⟨_, hhold, hmark⟩ => ⟨rfl, hhold, hmark⟩⟩
  decided {_ t} h hdef :=
    have hs := Transaction.ordered_taken.decided (p := 0) h.ordered hdef
    have hnone := h.unknown (.inl hdef)
    { real m := ⟨hs.real m, fun hd => by simp [markReal, h.write hd],
        .inl (head_markReal { t with deferred := false } _ m hnone)⟩
      wait hold := ⟨hs.wait hold, h.write, .inl hnone⟩
      defer := ⟨hs.defer, h.write, .inl hnone⟩ }
  answered r h hdef := h.answered hdef r
  released {_ t} m h hhold :=
    ⟨fun hd => Transaction.ordered_taken.released (p := 0) m h.ordered hhold hd, fun hd => by simp [markReal, h.write hd],
      .inl (head_markReal { t with hold := none } _ m (h.unknown (.inr hhold)))⟩

end Transaction

section Calm

variable {s : State} {i : StreamId}

/-- R23: between two commands every transaction is calm. -/
theorem State.calm_of_inForm (h : PortsInForm s) (hr : ResponsesInForm s) : s.desk.Form False fun _ t => t.Calm := by
  obtain ⟨hform, hdue⟩ := State.desk_portsInForm_iff.mpr h
  refine .of_txn fun q t ht => ⟨(State.desk_ordered_iff.mpr hr).txn q t ht, fun hd => ?_, .inl fun x hx => ?_⟩
  · exact (hform.txn q t ht).write_owes_none ht (hdue q).1 hd
  · obtain ⟨rest, hrest⟩ := List.head?_eq_some_iff.mp hx
    refine Option.eq_none_iff_forall_ne_some.mpr fun r hv => ?_
    have hsome := Port.responseDue_eq_some_iff.mpr ⟨t, rest, ht, hrest, hv⟩
    exact absurd ((hdue q).1.symm.trans hsome) (by simp)

/-- R23: the returns of calm transactions reach no Consumer Path. -/
theorem State.returnsLocal_of_calm (h : s.desk.Form False fun _ t => t.Calm) : s.ReturnsLocal := by
  intro q
  cases hdue : (s.port q).responseDue with
  | none => exact .inl rfl
  | some xr =>
    obtain ⟨x, r⟩ := xr
    obtain ⟨t, rest, ht, hrest, hv⟩ := Port.responseDue_eq_some_iff.mp hdue
    refine .inr fun t' ht' => .inl ?_
    obtain rfl : t = t' := Option.some.inj (ht.symm.trans ht')
    rcases (h.txn q t ht).head with hnone | ⟨-, -, hmark⟩
    · simp [hnone x (by simp [hrest])] at hv
    · exact hmark

/-- R23: what is returned of calm transactions changes no stream. -/
theorem State.settle_streams_of_calm (h : s.desk.Form False fun _ t => t.Calm)
    (howes : ∀ q t, (s.port q).txn = some t → t.owing ≤ 16) : s.settle.streams = s.streams := by
  rw [State.settle_of_local (State.returnsLocal_of_calm h) howes]
  rfl

end Calm

end Sys2Proof.Machine

namespace Sys2Proof.Machine

open Sys2Proof Sys2Proof.Safety

/-! ## An OKAY completion (R49, R50) -/

section OkayCompletion

variable {s u : State} {i : StreamId} {g : Granted} {n : Nat}

/-- R139: the port that owns a segment completed OKAY and not discarded has that many beats less outstanding. -/
theorem State.resultTaken_okay (hdiscarded : g.discarded = false) :
    s.resultTaken g .okay =
      { s with
        ports := s.ports.set g.owner
          { s.port g.owner with
            txn := (s.port g.owner).txn.map fun t =>
              { t with outstanding := t.outstanding - g.segment.beats.length } } } := by
  have hok (e : Bool) : (e || decide (BusStatus.okay = .error) || false) = e := by cases e <;> rfl
  simp only [State.resultTaken, hdiscarded, hok]
  rfl

@[simp] theorem State.producerOkay_quiet (s : State) (i : StreamId) (beats : List SegmentBeat) :
    (s.producerOkay i beats).quiet = s.quiet := by
  induction beats generalizing s with
  | nil => rfl
  | cons y rest ih =>
    rw [State.producerOkay_cons, ih]
    unfold State.beatOkay
    dsimp only
    split <;> simp

/-- R139: the result of a write keeps a rule that a completed beat keeps. -/
theorem State.resultTaken_form {Q : Prop} {T : PortId → Transaction → Prop} (W : TxnWorked T) (h : s.desk.Form Q T)
    (r : BusStatus) : (s.resultTaken g r).desk.Form Q T :=
  h.modTxn (f := fun t =>
    { t with
      outstanding := t.outstanding - g.segment.beats.length
      anyError := t.anyError || decide (r = .error) || g.discarded }) fun _ _ ht => W.work _ _ ht

/-- R23: what is returned after an OKAY completion, between two commands otherwise, changes no stream. -/
theorem State.settle_producerOkay_streams (h : PortsInForm s) (hr : ResponsesInForm s) (beats : List SegmentBeat) :
    ((s.resultTaken g .okay).producerOkay i beats).settle.streams
      = ((s.resultTaken g .okay).producerOkay i beats).streams := by
  have hcalm : ((s.resultTaken g .okay).producerOkay i beats).desk.Form False fun _ t => t.Calm :=
    Transaction.calm_committed.producerOkay_form
      (State.resultTaken_form Transaction.calm_committed.toTxnWorked (State.calm_of_inForm h hr) _) _
  have howing : s.desk.Form False fun _ t => t.owing ≤ 16 := .of_txn fun q t ht => Transaction.owing_le ((h.1 q).1 t ht)
  exact State.settle_streams_of_calm hcalm fun q t ht =>
    (State.producerOkay_form (txnKept_owing fun _ => 16)
      (State.resultTaken_form (txnKept_owing fun _ => 16).toTxnWorked howing _) _).txn q t ht

/-- R49, R50: the counts after an OKAY completion that ends the `n` oldest frames in flight. -/
theorem State.counted_okayCompletion (h : PortsInForm s) (hr : ResponsesInForm s) (hcursor : (s.stream i).CursorInRing)
    (hends : (g.segment.beats.filter (·.last)).map (·.entry) = (s.stream i).flight.take n)
    (hlen : n ≤ (s.stream i).flight.length) :
    s.Counted i n ((s.resultTaken g .okay).producerOkay i g.segment.beats).settle.freeMemory := by
  have hcount := State.counted_producerOkay (s := s.resultTaken g .okay) (i := i) (beats := g.segment.beats) hcursor
    (hends ▸ List.take_prefix _ _)
  have hn : (g.segment.beats.filter (·.last)).length = n := by
    rw [← List.length_map (f := fun x : SegmentBeat => x.entry), hends, List.length_take, Nat.min_eq_left hlen]
  rw [hn] at hcount
  have hstreams : ((s.resultTaken g .okay).producerOkay i g.segment.beats).settle.freeMemory.streams
      = ((s.resultTaken g .okay).producerOkay i g.segment.beats).streams :=
    (State.arbitrate_streams _).trans (State.settle_producerOkay_streams h hr _)
  have hstream (j : StreamId) : ((s.resultTaken g .okay).producerOkay i g.segment.beats).settle.freeMemory.stream j
      = ((s.resultTaken g .okay).producerOkay i g.segment.beats).stream j := congrArg (·[j]) hstreams
  exact ⟨fun j hj => (hstream j).trans (hcount.others j hj), by rw [hstream]; exact hcount.account⟩

end OkayCompletion

end Sys2Proof.Machine

namespace Sys2Proof.Machine

open Sys2Proof Sys2Proof.Safety

/-! ## What a commit does for the consumer read (R81, R89) -/

section Handed

variable {s u : State} {p : PortId} {i : StreamId} {t : Transaction} {st : Stream} {port : Port} {lines : Vector Line 8}
  {queue : NoticeQueue} {g : Granted} {y : SegmentBeat} {rest : List SegmentBeat} {n : Nat}

/-- R82, R118: the record of a stream after a REAL frame start takes its entry. -/
def Stream.deliveryEntered (st : Stream) : Stream :=
  { st with
    consumer := { st.consumer with
      delivery := st.consumer.delivery ++ [st.newDelivery]
      verdict := .real
      nextEntry := st.consumer.nextEntry + 1 }
    span := st.span.map SpanState.consumerStart }

/-- R82, R130: a REAL frame start takes its entry and begins its line's packet, and its first beat is forwarded. -/
theorem State.put_startReal (ht : port.txn = some t) (k : Nat) :
    (s.put i p st port lines queue).startReal i p k =
      (s.put i p (st.deliveryEntered.realForwarded st.consumer.delivery st.newDelivery 0)
        (port.realBeat t st.desc (st.ring.binding i) st.newDelivery k 0)
        (linesStarted { s with lines := lines } i .consumer) queue).arbitrate := by
  have hentered : (s.put i p st port lines queue).startReal i p k =
      ((s.put i p st.deliveryEntered port lines queue).paceFrameStart i .consumer).forwardReal i p k 0 := by
    simp only [State.startReal, State.put_stream, State.spanConsumerStart, State.put_modConsumer, State.put_modSpan]
    rfl
  rw [hentered, State.put_paceFrameStart, State.put_forwardReal rfl ht]
  rfl

/-- R28: the transaction in progress of a stream's running session. -/
theorem State.consumerTxn_eq (ht : (s.port (s.stream i).desc.consumerPort).txn = some t)
    (hcls : t.cls = some (.consumer (s.binding i))) : s.consumerTxn i = some t := by
  simp [State.consumerTxn, ht, hcls]

/-- R89: the record of a stream whose consumer side returns to FLOWING. -/
def Stream.consumerFlowing (st : Stream) : Stream := { st with consumer := { st.consumer with phase := .flowing } }

/-- R89: a held consumer read is released: its stream is FLOWING, both lines are tested, and its beat starts a REAL frame. -/
theorem State.commitReachesConsumer_of_waiting {h : Hold} (hphase : (s.stream i).consumer.phase = .waiting)
    (hp : p = (s.stream i).desc.consumerPort) (ht : (s.port p).txn = some t)
    (hcls : t.cls = some (.consumer (s.binding i))) (hhold : t.hold = some h) :
    s.commitReachesConsumer i =
      (s.put i p (s.stream i).consumerFlowing { s.port p with txn := some { t with hold := none } }
        (linesTested s i (s.stream i).consumerFlowing) s.queue).startReal i p (t.position - 1) := by
  have hreleased : ((s.setConsumerPhase i .flowing).paceTest i).endHold p =
      s.put i p (s.stream i).consumerFlowing { s.port p with txn := some { t with hold := none } }
        (linesTested s i (s.stream i).consumerFlowing) s.queue := by
    conv_lhs => rw [← s.put_self i p]
    simp only [State.setConsumerPhase, State.put_modConsumer, State.put_paceTest, State.endHold, State.put_modTxn, ht,
      Option.map_some]
    rfl
  rw [State.commitReachesConsumer, if_pos hphase, State.releaseWaiting]
  simp only [State.consumerTxn_eq (hp ▸ ht) hcls, hhold]
  rw [← hp, hreleased]

/-- R81: where no read is held, a commit decides a deferred one. -/
theorem State.commitReachesConsumer_of_not_waiting (h : (s.stream i).consumer.phase ≠ .waiting) :
    s.commitReachesConsumer i = s.decideDeferred i := if_neg h

/-- R81: with no deferred read there is nothing to decide. -/
theorem State.decideDeferred_of_none (h : s.hasDeferred i = false) : s.decideDeferred i = s := by
  unfold State.hasDeferred at h
  unfold State.decideDeferred
  dsimp only
  split at h
  · next t _ => simp [h]
  · next _ => simp

/-- R81: a deferred read is decided: its deferral ends, and its newest beat is a frame start. -/
theorem State.decideDeferred_of_deferred (hp : p = (s.stream i).desc.consumerPort) (ht : (s.port p).txn = some t)
    (hcls : t.cls = some (.consumer (s.binding i))) (hdef : t.deferred = true) :
    s.decideDeferred i =
      (s.put i p (s.stream i) { s.port p with txn := some { t with deferred := false } } s.lines
        s.queue).consumerFrameStart i p (t.position - 1) := by
  unfold State.decideDeferred
  simp only [State.consumerTxn_eq (hp ▸ ht) hcls, hdef, if_true]
  rw [← hp, State.modTxn_eq_put ht i]

/-- R32, R80: at a frame start in step a beat is decided as one, in ENDED too. -/
theorem State.consumerBeat_of_inStep_start {k : Nat} (hplace : (s.stream i).consumer.placement = .inStep)
    (hposition : (s.stream i).consumer.position = 0) : s.consumerBeat i p k 0 = s.consumerFrameStart i p k := by
  by_cases hended : (s.stream i).state = .ended
  · have hword : (s.stream i).consumerDecision = .word := by simp [Stream.consumerDecision, hended]
    rw [State.consumerBeat_of_word (.inl hended), State.consumerFrameStart, hword]
  · exact State.consumerBeat_of_start hended hplace hposition

/-- R81: the read `t` as it was before its newest beat was handed on, the responses `owed` then owed. -/
def Transaction.handedBack (t : Transaction) (owed : List ResponseSlot) : Transaction :=
  { t with deferred := false, position := t.position - 1, responses := owed }

/-- R81: handing the newest beat on once more leaves the read with its deferral at an end. -/
theorem Transaction.readHanded_handedBack {owed : List ResponseSlot} (hfirst : 1 ≤ t.position)
    (howed : t.responses = owed ++ [{ beat := t.position - 1, mark := none, value := none }]) :
    readHanded (t.handedBack owed) = { t with deferred := false } := by
  simp only [readHanded, Transaction.handedBack, Nat.sub_add_cancel hfirst, ← howed]

/-- R81: the decision of a deferred read is the command that hands its newest beat on, were it still to be handed on. -/
theorem exec_readBeat_of_handedBack {owed : List ResponseSlot} (hp : p = (s.stream i).desc.consumerPort)
    (ht : (s.port p).txn = some t) (hcls : t.cls = some (.consumer (s.binding i))) (hdef : t.deferred = true)
    (hhold : t.hold = none) (hdir : t.dir = .read) (hfirst : 1 ≤ t.position) (hlast : t.position ≤ t.beats)
    (howed : t.responses = owed ++ [{ beat := t.position - 1, mark := none, value := none }])
    (hopen : (s.stream i).state ≠ .closed) (hplace : (s.stream i).consumer.placement = .inStep)
    (hposition : (s.stream i).consumer.position = 0)
    (hoffset : beatOffset s i { t with position := t.position - 1 } = 0) :
    exec (.readBeat p)
      (s.put i p (s.stream i) { s.port p with txn := some (t.handedBack owed) } s.lines s.queue)
      = .next (State.settle (s.decideDeferred i)) := by
  have hdue : ConsumerBeatDue
      (s.put i p (s.stream i) { s.port p with txn := some (t.handedBack owed) } s.lines s.queue) p i (t.handedBack owed) := by
    refine ⟨⟨by rw [State.put_port], hdir, hhold, rfl, Nat.lt_of_lt_of_le (Nat.sub_one_lt_of_lt hfirst) hlast⟩, ?_, ?_⟩
    · rw [State.put_binding]
      exact hcls
    · rwa [State.put_stream]
  have hbeat : beatOffset (s.put i p (s.stream i) { s.port p with txn := some (t.handedBack owed) } s.lines s.queue) i
      (t.handedBack owed) = 0 := by
    simp only [beatOffset, State.put_stream]
    exact hoffset
  rw [exec_readBeat_of_consumerBeatDue hdue, hbeat, State.put_modTxn, Option.map_some,
    Transaction.readHanded_handedBack hfirst howed, State.consumerBeat_of_inStep_start (by rwa [State.put_stream])
      (by rwa [State.put_stream]), State.decideDeferred_of_deferred hp ht hcls hdef]
  rfl

end Handed

end Sys2Proof.Machine

namespace Sys2Proof.Machine

open Sys2Proof Sys2Proof.Safety

section Settling

variable {s : State} {i : StreamId} {g : Granted} {n : Nat}

/-- R49, R50: an OKAY completion of a producer segment goes to the Producer Path of its running session. -/
theorem exec_memoryWriteCompletion_okay (hm : s.memory = some g) (hready : g.writeReady = true)
    (hdiscarded : g.discarded = false) (hkind : g.segment.kind = .producer)
    (hbinding : g.segment.binding = some (s.binding i)) (hopen : (s.stream i).state ≠ .closed) :
    exec (.memoryWriteCompletion .okay) s =
      .next ((s.resultTaken g .okay).producerOkay i g.segment.beats).settle.freeMemory := by
  rw [exec_memoryWriteCompletion_of_segment hm hready, State.writeResult_of_producer hdiscarded hkind hbinding hopen]

/-- R49: a commit, with the record's part of it and the span's in one. -/
theorem State.commit_eq_budgetTest (s : State) (i : StreamId) :
    s.commit i =
      State.commitReachesConsumer (State.budgetTest (State.paceCount
        (s.modStream i fun st => { st.commitOldest with span := st.span.map SpanState.commit }) i .producer) i) i := by
  rw [State.commit, State.spanCommit, State.modSpan, State.modStream_modStream]
  rfl

end Settling

/-- Settles O46: a beat at a time, each commit the record's part and what it hands on; nothing handed on disturbs a count or
another stream, and no REAL beat is then due. -/
theorem okayCompletionCommitsTheFramesItEnds : Obligations.OkayCompletionCommitsTheFramesItEnds := by
  refine ⟨fun s i g n hm hready hdiscarded hkind hbinding hopen =>
      ⟨?whole, fun hports hresponses hcursor _ hends hlen => ?counts⟩,
    fun s u i y rest => ⟨rfl, ?beat⟩, fun s i => ?commit, ?waiting,
    fun s i hphase => ⟨State.commitReachesConsumer_of_not_waiting hphase, fun hnone => ?untouched⟩, ?deferred⟩
  case whole =>
    rw [exec_memoryWriteCompletion_okay hm hready hdiscarded hkind hbinding hopen, State.resultTaken_okay hdiscarded]
  case counts =>
    refine ⟨_, exec_memoryWriteCompletion_okay hm hready hdiscarded hkind hbinding hopen, ?_⟩
    obtain ⟨hothers, haccount⟩ := State.counted_okayCompletion hports hresponses hcursor
      (hends.trans List.map_take) (hlen.trans_eq (List.length_map ..).symm)
    have hquiet : ((s.resultTaken g .okay).producerOkay i g.segment.beats).settle.freeMemory.quiet = s.quiet := by
      rw [State.freeMemory_quiet, State.settle_quiet, State.producerOkay_quiet]
      rfl
    simp only [Stream.account, Stream.accountAfter, Prod.mk.injEq] at haccount
    simp only [State.quiet, Prod.mk.injEq] at hquiet
    obtain ⟨hdesc, hcommitted, hconsumed, hcursor'⟩ := haccount
    obtain ⟨-, hspi, htimebase, -, -, hpolynomial, hinitial⟩ := hquiet
    exact ⟨hcommitted, hcursor', hconsumed, hdesc, hothers, hspi, htimebase, hpolynomial, hinitial⟩
  case beat =>
    rintro rfl
    refine ⟨fun hlast hmem => ?_, fun h => ?_⟩
    · rw [State.producerOkay_cons, State.beatOkay_of_last hlast (List.mem_map.mpr hmem)]
      rfl
    · have hnot : y.last = false ∨ y.entry ∉ (s.stream i).flight :=
        h.imp_right fun hne hmem => by
          obtain ⟨e, he, hid⟩ := List.mem_map.mp hmem
          exact hne e he hid
      rw [State.producerOkay_cons, State.beatOkay_of_not_last hnot]
      rfl
  case commit =>
    rw [State.commit_eq_budgetTest]
    rfl
  case waiting =>
    rintro s i p t h slot hphase hp ht hcls hhold rfl
    rw [State.commitReachesConsumer_of_waiting hphase hp ht hcls hhold, State.put_startReal rfl]
    have hfirst : 0 + 4 = (s.stream i).consumerFlowing.desc.frameBytes ↔ (s.stream i).desc.frameBytes = 4 := eq_comm
    simp only [Port.realBeat, Stream.realForwarded, Stream.deliveryEntered, hfirst]
    rfl
  case untouched =>
    rw [State.commitReachesConsumer_of_not_waiting hphase, State.decideDeferred_of_none hnone]
  case deferred =>
    intro s i p t owed hp ht hcls hdef hhold hdir hfirst hlast howed hopen hplace hposition hoffset
    rw [State.set_port_eq_put s i p]
    exact exec_readBeat_of_handedBack hp ht hcls hdef hhold hdir hfirst hlast howed hopen hplace hposition hoffset

end Sys2Proof.Machine

namespace Sys2Proof.Machine

open Sys2Proof Sys2Proof.Safety

/-! ## ACKNOWLEDGE (R72, R95) -/

section Acknowledge

variable {s : State} {c : Instr} {target : Byte} {i : StreamId}

/-- R72, R95: ACKNOWLEDGE for a side of a stream: `due` says that the side's condition is running, and `ack` sets its flag. -/
def State.acknowledgeWhere (due : Stream → Prop) [DecidablePred due] (ack : Stream → Stream) (target : Byte)
    (s : State) : State × Answer :=
  match streamTarget target with
  | none => (s, Answer.plain .range)
  | some i =>
      if (s.stream i).state = .closed then (s, Answer.plain .state)
      else if due (s.stream i) then (s.modStream i ack, Answer.plain .ok)
      else (s, Answer.plain .none)

/-- R72: the row ACKNOWLEDGE_PRODUCER, where the port is receiving its frame; its condition is OVERRUN. -/
theorem exec_acknowledgeProducer (h : Receiving s (.acknowledgeProducer target)) :
    exec (.acknowledgeProducer target) s =
      .next (s.completeFrame (frameOf (.acknowledgeProducer target))
        (State.acknowledgeWhere (fun st => st.producer.phase = .overrun) (fun st => { st with overrunAcked := true })
          target)) :=
  congrArg _ (State.frameRow_of_receiving h)

/-- R95: the row ACKNOWLEDGE_CONSUMER, where the port is receiving its frame; its condition is UNDERRUN. -/
theorem exec_acknowledgeConsumer (h : Receiving s (.acknowledgeConsumer target)) :
    exec (.acknowledgeConsumer target) s =
      .next (s.completeFrame (frameOf (.acknowledgeConsumer target))
        (State.acknowledgeWhere (fun st => st.consumer.phase = .underrun) (fun st => { st with underrunAcked := true })
          target)) :=
  congrArg _ (State.frameRow_of_receiving h)

variable {due : Stream → Prop} [DecidablePred due] {ack : Stream → Stream}

/-- R72, R95: a target that names no stream answers RANGE. -/
theorem State.completeFrame_acknowledge_no_target (ht : 16 ≤ target.toNat) :
    s.completeFrame (frameOf c) (State.acknowledgeWhere due ack target) = answered s c 0x03#8 [] :=
  State.completeFrame_of_unchanged (a := Answer.plain .range) fun f => by
    simp [State.acknowledgeWhere, streamTarget_of_ge ht]

/-- R72, R95: ACKNOWLEDGE of a CLOSED stream answers STATE. -/
theorem State.completeFrame_acknowledge_closed (ht : target.toNat = i.val) (hclosed : (s.stream i).state = .closed) :
    s.completeFrame (frameOf c) (State.acknowledgeWhere due ack target) = answered s c 0x02#8 [] :=
  State.completeFrame_of_unchanged (a := Answer.plain .state) fun f => by
    simp [State.acknowledgeWhere, streamTarget_of_eq ht, hclosed]

/-- R72, R95: ACKNOWLEDGE of a side whose condition is not running answers NONE. -/
theorem State.completeFrame_acknowledge_not_due (ht : target.toNat = i.val) (hopen : (s.stream i).state ≠ .closed)
    (hdue : ¬ due (s.stream i)) :
    s.completeFrame (frameOf c) (State.acknowledgeWhere due ack target) = answered s c 0x09#8 [] :=
  State.completeFrame_of_unchanged (a := Answer.plain .none) fun f => by
    simp [State.acknowledgeWhere, streamTarget_of_eq ht, hopen, hdue]

/-- R72, R95: ACKNOWLEDGE of a side whose condition is running sets its flag. -/
theorem State.completeFrame_acknowledge_due (ht : target.toNat = i.val) (hopen : (s.stream i).state ≠ .closed)
    (hdue : due (s.stream i)) :
    s.completeFrame (frameOf c) (State.acknowledgeWhere due ack target) =
      { answered s c 0x01#8 [] with streams := s.streams.set i (ack (s.stream i)) } := by
  have hcommand (f : Management → Management) : State.acknowledgeWhere due ack target (s.modSpi f) =
      ((s.modSpi f).modStream i ack, Answer.plain .ok) := by
    simp [State.acknowledgeWhere, streamTarget_of_eq ht, hopen, hdue]
  rw [State.completeFrame_eq, hcommand]
  rfl

/-- R72, R95: the checks of ACKNOWLEDGE for a side, in their order. -/
theorem exec_acknowledgeWhere
    (h : exec c s = .next (s.completeFrame (frameOf c) (State.acknowledgeWhere due ack target))) (i : StreamId) :
    (16 ≤ target.toNat → exec c s = .next (answered s c 0x03#8 []))
    ∧ (target.toNat = i.val →
        ((s.stream i).state = .closed → exec c s = .next (answered s c 0x02#8 []))
        ∧ ((s.stream i).state ≠ .closed → ¬ due (s.stream i) → exec c s = .next (answered s c 0x09#8 []))
        ∧ ((s.stream i).state ≠ .closed → due (s.stream i) →
            exec c s = .next { answered s c 0x01#8 [] with streams := s.streams.set i (ack (s.stream i)) })) := by
  rw [h]
  exact ⟨fun ht => congrArg _ (State.completeFrame_acknowledge_no_target ht), fun ht =>
    ⟨fun hclosed => congrArg _ (State.completeFrame_acknowledge_closed ht hclosed),
      fun hopen hdue => congrArg _ (State.completeFrame_acknowledge_not_due ht hopen hdue),
      fun hopen hdue => congrArg _ (State.completeFrame_acknowledge_due ht hopen hdue)⟩⟩

end Acknowledge

/-! ## The last bit of a frame (R151, R152) -/

section LastBit

variable {s : State} {frame : List Byte} {b : Byte}

/-- R151: one more bit received, as a number. -/
theorem shiftBit_eq (acc : Byte) (bit : Bool) : shiftBit acc bit = BitVec.ofNat 8 (2 * acc.toNat + bit.toNat) := by
  have hbit : (if bit then 1#8 else 0#8) = BitVec.ofNat 8 bit.toNat := by cases bit <;> rfl
  have hor : acc.toNat <<< 1 ||| bit.toNat = 2 * acc.toNat + bit.toNat := by
    rw [← Nat.shiftLeft_add_eq_or_of_lt (by simpa using bit.toNat_lt), Nat.shiftLeft_eq, pow_one, Nat.mul_comm]
  apply BitVec.eq_of_toNat_eq
  rw [shiftBit, hbit, BitVec.toNat_or, BitVec.toNat_shiftLeft, BitVec.toNat_ofNat, BitVec.toNat_ofNat,
    ← Nat.or_mod_two_pow, hor]

/-- R151: the eighth rising edge of a byte receives it. -/
theorem exec_sckEdge_of_lastBit (hpor : s.porHigh = true) (hcs : s.csHigh = false) (hphase : s.spi.phase ≠ .idle)
    (hcount : s.spi.bitCount = 7) (mosi : Bool) :
    exec (.sckEdge (.rising mosi)) s =
      .next (s.receiveByte (BitVec.ofNat 8 (2 * s.spi.shiftIn.toNat + mosi.toNat))) := by
  have hexec : exec (.sckEdge (.rising mosi)) s = execSckEdge (.rising mosi) s := rfl
  simp [hexec, execSckEdge, State.selected, State.sckRising, hpor, hcs, hphase, hcount, shiftBit_eq]

/-- R152: the byte that completes a frame completes its command. -/
theorem State.receiveByte_of_complete (hphase : s.spi.phase = .frame)
    (hcomplete : frameComplete (s.spi.frame ++ [b]) = true) :
    s.receiveByte b = s.completeFrame (s.spi.frame ++ [b]) (State.applyFrame (s.spi.frame ++ [b])) := by
  simp [State.receiveByte, hphase, hcomplete]

/-- R72, R105: a complete frame that carries no command answers RANGE and changes nothing else. -/
theorem State.completeFrame_of_undecoded
    (h : decodeFrame (frame.getD 0 0#8) (frame.getD 1 0#8) (frame.drop 2) = none) :
    s.completeFrame frame (State.applyFrame frame) = { s with spi := resultPort s.spi frame 0x03#8 [] } := by
  have hanswer (u : State) : State.applyFrame frame u = (u, Answer.plain .range) := by
    rw [State.applyFrame, h]
  rw [State.completeFrame_eq, hanswer]
  rfl

/-- R72: a side code of ACKNOWLEDGE other than 0 and 1 names no side. -/
theorem decodeFrame_acknowledge_unassigned {side : Byte} (h : 2 ≤ side.toNat) (target : Byte) :
    decodeFrame 0x13#8 target [side] = none := by
  have hproducer : fieldAt [side] 0 1 ≠ 0 := by rw [fieldAt_cons_zero]; omega
  have hconsumer : fieldAt [side] 0 1 ≠ 1 := by rw [fieldAt_cons_zero]; omega
  simp [decodeFrame, argumentBytes, hproducer, hconsumer]

end LastBit

/-- Settles O19: the two sides are one command, for one condition each; the frame of a third side decodes to none. -/
theorem acknowledgeFollowsItsChecks : Obligations.AcknowledgeFollowsItsChecks := by
  refine ⟨fun s i target h => exec_acknowledgeWhere (exec_acknowledgeProducer h) i,
    fun s i target h => exec_acknowledgeWhere (exec_acknowledgeConsumer h) i,
    fun s target side mosi hpor hcs hphase hframe hcount hside hcode => ?_⟩
  have hcomplete : frameComplete (s.spi.frame ++ [side]) = true := by rw [hframe]; rfl
  rw [exec_sckEdge_of_lastBit hpor hcs (by simp [hphase]) hcount, ← hside,
    State.receiveByte_of_complete hphase hcomplete, hframe]
  exact congrArg _ (State.completeFrame_of_undecoded (decodeFrame_acknowledge_unassigned hcode target))

end Sys2Proof.Machine

namespace Sys2Proof.Machine

open Sys2Proof Sys2Proof.Safety

/-! ## Full rings: overrun, stall and resumption (R60 to R71) -/

section FullRings

variable {s : State} {p : PortId} {i : StreamId} {t : Transaction} {st : Stream} {port : Port} {lines : Vector Line 8}
  {queue : NoticeQueue}

/-! ### The records of one stream and one port (R26, R27, R129, R132) -/

@[simp] theorem State.put_paceDrop (side : Side) :
    (s.put i p st port lines queue).paceDrop i side =
      s.put i p st port (linesDropped { s with lines := lines } i side st) queue := by
  rw [State.paceDrop_eq, State.put_stream]
  rfl

theorem State.put_endHold (ht : port.txn = some t) :
    (s.put i p st port lines queue).endHold p =
      s.put i p st { port with txn := some { t with hold := none } } lines queue := by
  rw [State.endHold, State.put_modTxn, ht]
  rfl

theorem State.put_beginHold (ht : port.txn = some t) (limit : Nat) (data : Word) :
    (s.put i p st port lines queue).beginHold p limit data =
      s.put i p st
        { port with txn := some { t with hold := some { limit := limit, count := 0, data := data } }, newestOpen := false }
        lines queue := by
  rw [State.beginHold, State.put_modTxn, State.put_closeSegment, ht]
  rfl

/-- R129: the pace lines are tested against no more of a record than the readiness of its sides. -/
theorem linesTested_congr {st st' : Stream} (h : ∀ l : Line, LineReady st l ↔ LineReady st' l) (s : State) (i : StreamId) :
    linesTested s i st = linesTested s i st' := by
  simp only [linesTested, h]

/-! ### The overrun condition begins (R62, R66) -/

/-- R46, R62, R66: the record of a stream after its overrun condition has begun, with its first frame absorbed. -/
def Stream.overrunBegun (st : Stream) : Stream :=
  { st with
    overrunAcked := false
    producer := { st.producer with
      phase := .overrun
      tally := 1#32
      position := positionAfterStart st
      treatment := if st.desc.frameBytes = 4 then .none else .absorb }
    counters := { st.counters with absorbed := counterUp st.counters.absorbed } }

/-- R62, R66, R132: the overrun condition begins: OVERRUN is posted, the producer's line drops, and the frame is absorbed and
counted. -/
theorem State.put_beginOverrun :
    (s.put i p st port lines queue).beginOverrun i p =
      s.put i p st.overrunBegun { port with newestOpen := false }
        (linesDropped { s with lines := lines } i .producer st.overrunBegun)
        (queue.post .overrun (streamSubject i) .producer st.committed 0#32) := by
  simp only [State.beginOverrun, State.overrunFrame, State.absorbFrame, State.put_stream, State.put_modStream,
    State.put_post, State.put_paceDrop, State.put_modProducer, State.put_count, State.put_closeSegment, nextPosition,
    lastOffset_zero, decide_eq_true_eq]
  rfl

/-- R43, R61, R62: in OPEN, FLOWING and below the frame limit, a frame start without free room begins the condition under
ABSORB. -/
theorem Stream.producerDecision_overrun (hopen : st.state = .opened) (hphase : st.producer.phase = .flowing)
    (hlimit : st.atFrameLimit = false) (hroom : st.freeRoom = 0) (hpolicy : st.desc.fullPolicy = .absorb) :
    st.producerDecision = .overrun := by
  simp [Stream.producerDecision, hopen, hphase, hlimit, hroom, hpolicy]

/-- R43, R61, R64: in OPEN, FLOWING and below the frame limit, a frame start without free room is held under STALL. -/
theorem Stream.producerDecision_stall (hopen : st.state = .opened) (hphase : st.producer.phase = .flowing)
    (hlimit : st.atFrameLimit = false) (hroom : st.freeRoom = 0) (hpolicy : st.desc.fullPolicy = .stall) :
    st.producerDecision = .stall := by
  simp [Stream.producerDecision, hopen, hphase, hlimit, hroom, hpolicy]

/-- R64: the record of a stream whose producer is HELD. -/
def Stream.producerHeld (st : Stream) : Stream := { st with producer := { st.producer with phase := .held } }

/-- R64, R132: the beat at a frame start is held, its stream is HELD, and the producer's line drops. -/
theorem State.put_stallFrame (ht : port.txn = some t) (data : Word) :
    (s.put i p st port lines queue).stallFrame i p data =
      s.put i p st.producerHeld
        { port with
          txn := some { t with hold := some { limit := st.desc.stallLimit, count := 0, data := data } }
          newestOpen := false }
        (linesDropped { s with lines := lines } i .producer st.producerHeld) queue := by
  rw [State.stallFrame, State.put_stream, State.put_beginHold ht, State.setProducerPhase, State.put_modProducer,
    State.put_paceDrop]
  rfl

/-- Settles O34: by the decision at the frame start, which the full policy makes. -/
theorem frameStartWithoutRoomFollowsTheFullPolicy : Obligations.FrameStartWithoutRoomFollowsTheFullPolicy := by
  refine fun s p i t data hdue hstart hopen hphase hlimit hroom => ⟨?absorb, ?stall⟩
  case absorb =>
    rintro st hpolicy rfl
    have hdecision : (s.stream i).atFrameStart.producerDecision = .overrun :=
      Stream.producerDecision_overrun hopen hphase hlimit hroom hpolicy
    rw [exec_writeBeat_of_frameStart hdue hstart, State.producerFrameStart, State.put_stream, hdecision]
    exact congrArg (fun x : State => Host.Outcome.next x.settle) State.put_beginOverrun
  case stall =>
    rintro st hpolicy rfl
    have hdecision : (s.stream i).atFrameStart.producerDecision = .stall :=
      Stream.producerDecision_stall hopen hphase hlimit hroom hpolicy
    rw [exec_writeBeat_of_frameStart hdue hstart, State.producerFrameStart, State.put_stream, hdecision]
    exact congrArg (fun x : State => Host.Outcome.next x.settle) (State.put_stallFrame (t := beatTaken t) rfl data)

/-! ### The condition ends (R65, R70, R71) -/

/-- R43, R70: in OPEN and below the frame limit, a frame start in the condition resumes it where there is room and consent. -/
theorem Stream.producerDecision_resume (hopen : st.state = .opened) (hphase : st.producer.phase = .overrun)
    (hlimit : st.atFrameLimit = false) (hroom : st.desc.restartLevel ≤ st.freeRoom)
    (hconsent : st.overrunAcked = true ∨ st.desc.autoResume = true) : st.producerDecision = .resume := by
  simp [Stream.producerDecision, Stream.overrunMayResume, hopen, hphase, hlimit, hroom, hconsent]

/-- R65, R71: the record of a stream whose producer side returns to FLOWING. -/
def Stream.producerFlowing (st : Stream) : Stream := { st with producer := { st.producer with phase := .flowing } }

/-- R71, R129, R130: a frame start resumes the condition: FLOWING, RESUMED posted, both lines tested, and the frame placed. -/
theorem State.put_resumeOverrun (ht : port.txn = some t) (k : Nat) (data : Word) :
    (s.put i p st port lines queue).resumeOverrun i p k data =
      (s.put i p (s.framePlaced st.producerFlowing data)
        (port.placedBeat t st.desc (st.ring.binding i) st.producerFlowing.newInFlight k data 0)
        (linesResumed { s with lines := lines } i .producer st.producerFlowing)
        (queue.post .resumed (streamSubject i) .producer st.producer.tally 0#32)).arbitrate := by
  simp only [State.resumeOverrun, State.setProducerPhase, State.put_modProducer, State.put_stream, State.put_post,
    State.put_paceTest, State.placeFrame, State.put_enterFrame]
  rw [State.put_startPlaced ht]
  rfl

/-- R28: the transaction in progress of a stream's running session. -/
theorem State.producerTxn_eq (ht : (s.port (s.stream i).desc.producerPort).txn = some t)
    (hcls : t.cls = some (.producer (s.binding i))) : s.producerTxn i = some t := by
  simp [State.producerTxn, ht, hcls]

/-- R65: a room event of a stream that is not OPEN, or whose producer is not HELD, changes nothing. -/
theorem State.roomEvent_of_not_held (h : (s.stream i).state ≠ .opened ∨ (s.stream i).producer.phase ≠ .held) :
    s.roomEvent i = s := by
  refine if_neg ?_
  rintro ⟨hopen, hphase⟩
  exact h.elim (· hopen) (· hphase)

/-- R129: a frame placed leaves the free room as its entry did, whatever its first beat changes. -/
theorem lineReady_framePlaced (st : Stream) (data : Word) (l : Line) :
    LineReady st.frameEntered l ↔ LineReady (s.framePlaced st data) l := by
  have hroom : (s.framePlaced st data).freeRoom = st.frameEntered.freeRoom := by
    simp only [Stream.freeRoom, State.framePlaced, Stream.beatForwarded, Stream.frameEntered, List.length_append,
      List.length_singleton]
    rfl
  simp only [LineReady, hroom]
  rfl

/-- R65, R129, R130: a room event of an OPEN stream releases its held write: FLOWING, its frame placed, and the lines tested
against the free room after it. -/
theorem State.roomEvent_of_held {h : Hold} (hopen : (s.stream i).state = .opened)
    (hphase : (s.stream i).producer.phase = .held) (hp : p = (s.stream i).desc.producerPort)
    (ht : (s.port p).txn = some t) (hcls : t.cls = some (.producer (s.binding i))) (hhold : t.hold = some h) :
    s.roomEvent i =
      (s.put i p (s.framePlaced (s.stream i).producerFlowing h.data)
        ((s.port p).placedBeat { t with hold := none } (s.stream i).desc (s.binding i)
          (s.stream i).producerFlowing.newInFlight (t.position - 1) h.data 0)
        (linesResumed s i .producer (s.framePlaced (s.stream i).producerFlowing h.data)) s.queue).arbitrate := by
  have hreleased : (((s.setProducerPhase i .flowing).endHold p).enterFrame i).paceTest i =
      s.put i p (s.stream i).producerFlowing.frameEntered { s.port p with txn := some { t with hold := none } }
        (linesTested s i (s.stream i).producerFlowing.frameEntered) s.queue := by
    conv_lhs => rw [← s.put_self i p]
    rw [State.setProducerPhase, State.put_modProducer, State.put_endHold ht, State.put_enterFrame, State.put_paceTest]
    rfl
  rw [State.roomEvent, if_pos ⟨hopen, hphase⟩]
  simp only [State.producerTxn_eq (hp ▸ ht) hcls, hhold]
  rw [← hp, hreleased, State.put_startPlaced rfl, linesTested_congr (lineReady_framePlaced _ h.data)]
  rfl

/-- Settles O35: the record and the port after the frame is placed are those of O31, from the record that flows again. -/
theorem overrunResumesWithRoomAndConsent : Obligations.OverrunResumesWithRoomAndConsent := by
  refine ⟨?resume, fun s i => ⟨State.roomEvent_of_not_held, ?release⟩⟩
  case resume =>
    rintro s p i t data slot hdue hstart hopen hphase hlimit hroom hconsent rfl
    have hdecision : (s.stream i).atFrameStart.producerDecision = .resume :=
      Stream.producerDecision_resume hopen hphase hlimit hroom hconsent
    rw [exec_writeBeat_of_frameStart hdue hstart, State.producerFrameStart, State.put_stream, hdecision]
    simp only
    rw [State.put_resumeOverrun (t := beatTaken t) rfl]
    have hfirst : 0 + 4 = (s.stream i).desc.frameBytes ↔ (s.stream i).desc.frameBytes = 4 := eq_comm
    simp only [State.framePlaced, Stream.beatForwarded, Port.placedBeat, Stream.frameEntered, Stream.producerFlowing,
      Stream.atFrameStart, endsSpan, hfirst, Option.map_map]
    rfl
  case release =>
    rintro p t h slot st hopen hphase hp ht hcls hhold rfl rfl
    rw [State.roomEvent_of_held hopen hphase hp ht hcls hhold]
    have hfirst : 0 + 4 = (s.stream i).desc.frameBytes ↔ (s.stream i).desc.frameBytes = 4 := eq_comm
    simp only [State.framePlaced, Stream.beatForwarded, Port.placedBeat, Stream.frameEntered, Stream.producerFlowing,
      endsSpan, hfirst, Option.map_map]
    rfl

end FullRings

/-! ## The expiry of a hold (R26, R66, R86, R87, R89) -/

section Expiry

variable {s : State} {p : PortId} {i : StreamId} {t : Transaction} {st : Stream} {port : Port} {lines : Vector Line 8}
  {queue : NoticeQueue} {h : Hold}

/-- R87: the record of a stream with its held slot reserved, where it may be. -/
def Stream.slotReserved (st : Stream) : Stream :=
  { st with
    consumer := { st.consumer with
      heldSlot := st.reservedSlot
      holdSource := if st.mayReserve then .slot else .word } }

theorem Stream.slotReserved_eq (st : Stream) :
    (if st.mayReserve then
        { st with
          consumer := { st.consumer with heldSlot := some (slotBefore st.desc st.consumerCursor), holdSource := .slot } }
      else { st with consumer := { st.consumer with heldSlot := none, holdSource := .word } }) = st.slotReserved := by
  unfold Stream.slotReserved Stream.reservedSlot
  cases st.mayReserve with
  | false => rfl
  | true => rfl

/-- R86, R87: the record of a stream after its underrun condition has begun. -/
def Stream.underrunBegun (st : Stream) : Stream :=
  Stream.slotReserved
    { st with underrunAcked := false, consumer := { st.consumer with phase := .underrun, tally := 0#32 } }

/-- R86, R87, R132: the underrun condition begins: UNDERRUN is posted, the held slot reserved under HOLD, and the consumer's
line drops. -/
theorem State.put_beginUnderrun :
    (s.put i p st port lines queue).beginUnderrun i =
      s.put i p st.underrunBegun port (linesDropped { s with lines := lines } i .consumer st.underrunBegun)
        (queue.post .underrun (streamSubject i) .consumer st.consumed 0#32) := by
  simp only [State.beginUnderrun, Stream.slotReserved_eq, State.put_modStream, State.put_stream, State.put_post,
    State.put_paceDrop]
  rfl

/-- R87: the held slot may be reserved under HOLD, once a frame has been delivered and while a slot is not in flight. -/
theorem Stream.mayReserve_iff (st : Stream) :
    st.mayReserve = true ↔ st.desc.fillMode = .hold ∧ st.consumer.deliveredOnce = true
      ∧ st.producer.inFlight.length < st.desc.depth := by
  simp [Stream.mayReserve, and_assoc]

/-- R26: HOLD_TIMER_EXPIRY is taken where the hold's timer has reached its limit. -/
theorem exec_holdTimerExpiry_of_expired (ht : (s.port p).txn = some t) (hhold : t.hold = some h)
    (hlimit : h.limit ≤ h.count) : exec (.holdTimerExpiry p) s = .next (s.takeExpiry p t).settle := by
  have hexec : exec (.holdTimerExpiry p) s = execHoldTimerExpiry p s := rfl
  simp [hexec, execHoldTimerExpiry, ht, hhold, hlimit]

/-- R26, R27: on a port that is not HELD, or whose timer has not reached its limit, no expiry is taken. -/
theorem exec_holdTimerExpiry_of_not_expired (ht : (s.port p).txn = some t)
    (hnot : t.hold = none ∨ ∃ h, t.hold = some h ∧ h.count < h.limit) : exec (.holdTimerExpiry p) s = .next s := by
  have hexec : exec (.holdTimerExpiry p) s = execHoldTimerExpiry p s := rfl
  rcases hnot with hnone | ⟨h, hhold, hcount⟩
  · simp [hexec, execHoldTimerExpiry, ht, hnone]
  · simp [hexec, execHoldTimerExpiry, ht, hhold, Nat.not_le.mpr hcount]

/-- R27: the hold of a port ends. -/
theorem State.endHold_eq_put (ht : (s.port p).txn = some t) (i : StreamId) :
    s.endHold p = s.put i p (s.stream i) { s.port p with txn := some { t with hold := none } } s.lines s.queue :=
  State.modTxn_eq_put ht i _

/-- R66: the expiry of a held producer write of the running session of stream `i`. -/
theorem State.takeExpiry_of_producer (hcls : t.cls = some (.producer (s.binding i)))
    (hopen : (s.stream i).state ≠ .closed) : s.takeExpiry p t = (s.endHold p).beginOverrun i p := by
  rw [State.takeExpiry, hcls]
  exact if_pos (State.live_binding hopen)

/-- R89: the expiry of a held consumer read of the running session of stream `i`. -/
theorem State.takeExpiry_of_consumer (hcls : t.cls = some (.consumer (s.binding i)))
    (hopen : (s.stream i).state ≠ .closed) :
    s.takeExpiry p t = ((s.endHold p).beginUnderrun i).fillFrame i p (t.position - 1) := by
  rw [State.takeExpiry, hcls]
  exact if_pos (State.live_binding hopen)

/-- Settles O39: an expiry ends the hold and begins the condition of the held beat's side. -/
theorem holdTimerExpiryBeginsTheCondition : Obligations.HoldTimerExpiryBeginsTheCondition := by
  refine ⟨?producer, fun s p i t ht => ⟨?consumer, exec_holdTimerExpiry_of_not_expired ht⟩⟩
  case producer =>
    rintro s p i t h st ht hhold hlimit hcls hopen rfl
    rw [exec_holdTimerExpiry_of_expired ht hhold hlimit, State.takeExpiry_of_producer hcls hopen,
      State.endHold_eq_put ht i, State.put_beginOverrun]
    rfl
  case consumer =>
    rintro h st hhold hlimit hcls hopen rfl
    rw [exec_holdTimerExpiry_of_expired ht hhold hlimit, State.takeExpiry_of_consumer hcls hopen,
      State.endHold_eq_put ht i, State.put_beginUnderrun]
    simp only [Stream.underrunBegun, Stream.slotReserved, Stream.reservedSlot, Stream.mayReserve_iff]
    rfl

end Expiry

end Sys2Proof.Machine

namespace Sys2Proof.Machine

open Sys2Proof Sys2Proof.Safety

/-! ## Consumer frame starts (R77, R80 to R94) -/

section FrameStarts

variable {s : State} {p : PortId} {i : StreamId} {t : Transaction} {st : Stream} {port : Port} {lines : Vector Line 8}
  {queue : NoticeQueue}

/-- R77, R80: the record of a stream when a frame start of its consumer is decided: its consumer is in step. -/
def Stream.atReadStart (st : Stream) : Stream := { st with consumer := consumerInStep st }

theorem Stream.atReadStart_of_inStep (h : st.consumer.placement = .inStep) : st.atReadStart = st := by
  rw [Stream.atReadStart, consumerInStep, if_neg (by simp [h]), ← h]

/-- R77, R80: the state in which the next beat of the read on port `p`, a frame start of stream `i`, is decided. -/
def State.readStarted (s : State) (i : StreamId) (p : PortId) : State :=
  (s.modTxn p readHanded).modStream i Stream.atReadStart

theorem State.readStarted_eq_put (ht : (s.port p).txn = some t) :
    s.readStarted i p =
      s.put i p (s.stream i).atReadStart { s.port p with txn := some (readHanded t) } s.lines s.queue := by
  rw [State.readStarted, State.modTxn_eq_put ht i, State.put_modStream]

/-- R77, R80: a beat that is a frame start, in step or a recovery, is decided as one. -/
theorem exec_readBeat_of_frameStart (h : ConsumerBeatDue s p i t) (hstart : ConsumerFrameStart s i t)
    (hended : (s.stream i).state ≠ .ended) :
    exec (.readBeat p) s = .next ((s.readStarted i p).consumerFrameStart i p t.position).settle := by
  obtain ⟨hoffset, hplace⟩ := hstart
  rw [exec_readBeat_of_consumerBeatDue h, hoffset]
  cases hp : (s.stream i).consumer.placement with
  | lost =>
    have hrecord : (s.modTxn p readHanded).modConsumer i (fun cs => { cs with placement := .inStep, verdict := .none }) =
        s.readStarted i p :=
      State.modStream_congr (s := s.modTxn p readHanded) (by simp [Stream.atReadStart, consumerInStep, hp])
    simp only [State.consumerBeat, State.modTxn_stream, hended, hp, if_true, if_false, hrecord]
  | inStep =>
    have hposition : (s.stream i).consumer.position = 0 := hplace.resolve_left (by simp [hp])
    have hrecord : s.readStarted i p = s.modTxn p readHanded :=
      State.modStream_id (s := s.modTxn p readHanded) (Stream.atReadStart_of_inStep hp)
    rw [State.consumerBeat_of_start (s := s.modTxn p readHanded) hended hp hposition, hrecord]

/-- R80, R81: in phase FLOWING a frame start with a frame available is REAL. -/
theorem Stream.consumerDecision_real (hended : st.state ≠ .ended) (hphase : st.consumer.phase = .flowing)
    (havailable : 1 ≤ st.available) : st.consumerDecision = .real := by
  simp [Stream.consumerDecision, hended, hphase, havailable]

/-- R81: in phase FLOWING a frame start that finds nothing available is deferred behind the frames in delivery. -/
theorem Stream.consumerDecision_defer (hended : st.state ≠ .ended) (hphase : st.consumer.phase = .flowing)
    (havailable : st.available = 0) (hdelivery : st.consumer.delivery ≠ []) : st.consumerDecision = .defer := by
  simp [Stream.consumerDecision, hended, hphase, havailable, hdelivery]

/-- R80, R86: with no frame in delivery FILL begins the underrun condition. -/
theorem Stream.consumerDecision_underrun (hended : st.state ≠ .ended) (hphase : st.consumer.phase = .flowing)
    (havailable : st.available = 0) (hdelivery : st.consumer.delivery = []) (hpolicy : st.desc.emptyPolicy = .fill) :
    st.consumerDecision = .underrun := by
  simp [Stream.consumerDecision, hended, hphase, havailable, hdelivery, hpolicy]

/-- R80, R88: with no frame in delivery WAIT holds the beat. -/
theorem Stream.consumerDecision_wait (hended : st.state ≠ .ended) (hphase : st.consumer.phase = .flowing)
    (havailable : st.available = 0) (hdelivery : st.consumer.delivery = []) (hpolicy : st.desc.emptyPolicy = .wait) :
    st.consumerDecision = .wait := by
  simp [Stream.consumerDecision, hended, hphase, havailable, hdelivery, hpolicy]

/-- R93: the condition goes on in DRAINING with nothing committed, and in OPEN without enough frames or without consent. -/
theorem Stream.consumerDecision_fill (hphase : st.consumer.phase = .underrun)
    (h : (st.state = .draining ∧ st.occupancy = 0)
      ∨ (st.state = .opened ∧
        (st.occupancy < st.desc.restartLevel ∧ (st.producer.phase ≠ .done ∨ st.occupancy = 0)
          ∨ st.underrunAcked = false ∧ st.desc.autoResume = false))) : st.consumerDecision = .fill := by
  rcases h with ⟨hdraining, hoccupancy⟩ | ⟨hopen, hfew | ⟨hack, hauto⟩⟩
  · simp [Stream.consumerDecision, Stream.underrunMayResume, hdraining, hphase, hoccupancy]
  · obtain ⟨hlevel, hdone | hnone⟩ := hfew
    · simp [Stream.consumerDecision, Stream.underrunMayResume, hopen, hphase, hlevel, hdone]
    · simp [Stream.consumerDecision, Stream.underrunMayResume, hopen, hphase, hnone,
        Nat.ne_of_gt (Nat.zero_lt_of_lt hlevel)]
  · simp [Stream.consumerDecision, Stream.underrunMayResume, hopen, hphase, hack, hauto]

/-- R93: the condition may end in DRAINING with a frame committed, and in OPEN with the frames and the consent. -/
theorem Stream.underrunMayResume_of_frames
    (h : (st.state = .draining ∧ 1 ≤ st.occupancy)
      ∨ (st.state = .opened
        ∧ (st.desc.restartLevel ≤ st.occupancy ∨ st.producer.phase = .done ∧ 1 ≤ st.occupancy)
        ∧ (st.underrunAcked = true ∨ st.desc.autoResume = true))) : st.underrunMayResume = true := by
  rcases h with ⟨hdraining, hoccupancy⟩ | ⟨hopen, hframes, hconsent⟩
  · simp [Stream.underrunMayResume, hdraining, hoccupancy]
  · simp [Stream.underrunMayResume, hopen, hframes, hconsent]

/-- R80, R93: a frame start in the condition ends it where it may end. -/
theorem Stream.consumerDecision_resume (hended : st.state ≠ .ended) (hphase : st.consumer.phase = .underrun)
    (hmay : st.underrunMayResume = true) : st.consumerDecision = .resume := by
  simp [Stream.consumerDecision, hended, hphase, hmay]

/-- Settles O40: the beat is decided as a frame start with a frame available, its entry appended, and the beat forwarded. -/
theorem frameStartWithAFrameAvailableIsReal : Obligations.FrameStartWithAFrameAvailableIsReal := by
  rintro s p i t slot hdue hform hstart hended hphase havailable rfl
  have hdecision : (s.stream i).atReadStart.consumerDecision = .real :=
    Stream.consumerDecision_real hended hphase havailable
  rw [exec_readBeat_of_frameStart hdue hstart hended, State.readStarted_eq_put hdue.1.1, State.consumerFrameStart,
    State.put_stream, hdecision]
  simp only
  rw [State.put_startReal rfl]
  have hfirst : 0 + 4 = (s.stream i).atReadStart.desc.frameBytes ↔ (s.stream i).desc.frameBytes = 4 := eq_comm
  simp only [Port.realBeat, Stream.realForwarded, Stream.deliveryEntered, hfirst, Transaction.markReal_handed hform]
  rfl

/-- R81: the newest beat is deferred. -/
theorem State.put_deferFrame (ht : port.txn = some t) :
    (s.put i p st port lines queue).deferFrame p =
      s.put i p st { port with txn := some { t with deferred := true } } lines queue := by
  rw [State.deferFrame, State.put_modTxn, ht]
  rfl

/-- R88: the record of a stream whose consumer is WAITING. -/
def Stream.consumerWaiting (st : Stream) : Stream := { st with consumer := { st.consumer with phase := .waiting } }

/-- R88, R132: the beat at a frame start is held, its stream is WAITING, and the consumer's line drops. -/
theorem State.put_waitFrame (ht : port.txn = some t) :
    (s.put i p st port lines queue).waitFrame i p =
      s.put i p st.consumerWaiting
        { port with
          txn := some { t with hold := some { limit := st.desc.waitLimit, count := 0, data := 0#32 } }
          newestOpen := false }
        (linesDropped { s with lines := lines } i .consumer st.consumerWaiting) queue := by
  rw [State.waitFrame, State.put_stream, State.put_beginHold ht, State.setConsumerPhase, State.put_modConsumer,
    State.put_paceDrop]
  rfl

/-- Settles O41: by the decision at the frame start, which the delivery list and the empty policy make. -/
theorem frameStartWithNothingAvailableFollowsTheEmptyPolicy :
    Obligations.FrameStartWithNothingAvailableFollowsTheEmptyPolicy := by
  refine fun s p i t hdue hstart hended hphase havailable => ⟨fun hdelivery => ?defer, ?wait, ?underrun⟩
  case defer =>
    have hdecision : (s.stream i).atReadStart.consumerDecision = .defer :=
      Stream.consumerDecision_defer hended hphase havailable hdelivery
    rw [exec_readBeat_of_frameStart hdue hstart hended, State.readStarted_eq_put hdue.1.1, State.consumerFrameStart,
      State.put_stream, hdecision]
    exact congrArg (fun x : State => Host.Outcome.next x.settle) (State.put_deferFrame rfl)
  case wait =>
    rintro st hdelivery hpolicy rfl
    have hdecision : (s.stream i).atReadStart.consumerDecision = .wait :=
      Stream.consumerDecision_wait hended hphase havailable hdelivery hpolicy
    rw [exec_readBeat_of_frameStart hdue hstart hended, State.readStarted_eq_put hdue.1.1, State.consumerFrameStart,
      State.put_stream, hdecision]
    exact congrArg (fun x : State => Host.Outcome.next x.settle) (State.put_waitFrame rfl)
  case underrun =>
    rintro st hdelivery hpolicy rfl
    have hdecision : (s.stream i).atReadStart.consumerDecision = .underrun :=
      Stream.consumerDecision_underrun hended hphase havailable hdelivery hpolicy
    rw [exec_readBeat_of_frameStart hdue hstart hended, State.readStarted_eq_put hdue.1.1, State.consumerFrameStart,
      State.put_stream, hdecision]
    simp only
    rw [State.put_beginUnderrun]
    simp only [Stream.underrunBegun, Stream.slotReserved, Stream.reservedSlot, Stream.mayReserve_iff]
    rfl

/-- Settles O42: by the decision at the frame start, which the record in step does not change. -/
theorem underrunGoesOnWithoutFramesOrConsent : Obligations.UnderrunGoesOnWithoutFramesOrConsent := by
  intro s p i t hdue hstart hended hphase hstay
  have hdecision : (s.stream i).atReadStart.consumerDecision = .fill := Stream.consumerDecision_fill hphase hstay
  rw [exec_readBeat_of_frameStart hdue hstart hended, State.readStarted_eq_put hdue.1.1, State.consumerFrameStart,
    State.put_stream, hdecision]
  rfl

/-! ### Fill frames (R90, R91, R92) -/

/-- R91, R92: the record of a stream after the beat at `offset` of a fill frame is answered. -/
def Stream.fillAnswered (offset : Nat) (st : Stream) : Stream :=
  { st with
    consumer := { st.consumer with
      position := if offset + 4 = st.desc.frameBytes then 0 else offset + 4
      verdict := if offset + 4 = st.desc.frameBytes then .none else .fill } }

/-- R23, R135: the port after beat `k` of its read `t` is answered internally. -/
def Port.beatAnswered (port : Port) (t : Transaction) (k : Nat) (r : Response) : Port :=
  { port with txn := some (t.answer k r), newestOpen := false }

theorem State.put_answerBeat (ht : port.txn = some t) (k : Nat) (r : Response) :
    (s.put i p st port lines queue).answerBeat p k r =
      s.put i p st (port.beatAnswered t k r) lines queue := by
  rw [State.answerBeat, State.put_modTxn, State.put_closeSegment, ht]
  rfl

theorem State.put_fillAnswered (offset : Nat) :
    ((s.put i p st port lines queue).modConsumer i fun cs =>
      { cs with
        position := nextPosition st.desc offset
        verdict := if lastOffset st.desc offset then .none else .fill }) =
      s.put i p (st.fillAnswered offset) port lines queue := by
  simp only [State.put_modConsumer, Stream.fillAnswered, nextPosition, lastOffset, beq_iff_eq]

/-- R91: under ZERO a beat of a fill frame is answered with 0. -/
theorem State.put_fillBeat_of_zero (ht : port.txn = some t) (hmode : st.desc.fillMode = .zero) (k offset : Nat) :
    (s.put i p st port lines queue).fillBeat i p k offset =
      s.put i p (st.fillAnswered offset) (port.beatAnswered t k (okayResponse 0#32)) lines queue := by
  simp only [State.fillBeat, State.put_stream, hmode, State.put_fillAnswered, State.put_answerBeat ht]

/-- R91, R92: under CONSTANT, and under HOLD with source WORD, a beat of a fill frame is answered with fill_word. -/
theorem State.put_fillBeat_of_word (ht : port.txn = some t)
    (hmode : st.desc.fillMode = .constant ∨ st.desc.fillMode = .hold ∧ st.consumer.holdSource = .word) (k offset : Nat) :
    (s.put i p st port lines queue).fillBeat i p k offset =
      s.put i p (st.fillAnswered offset) (port.beatAnswered t k (okayResponse st.desc.fillWord)) lines queue := by
  rcases hmode with hmode | ⟨hmode, hsource⟩
  · simp only [State.fillBeat, State.put_stream, hmode, State.put_fillAnswered, State.put_answerBeat ht]
  · simp only [State.fillBeat, State.put_stream, hmode, hsource, State.put_fillAnswered, State.put_answerBeat ht]

/-- R92: under HOLD with source SLOT a beat of a fill frame is a HOLD read of the held slot. -/
theorem State.put_fillBeat_of_slot {slot : Nat} (ht : port.txn = some t) (hmode : st.desc.fillMode = .hold)
    (hsource : st.consumer.holdSource = .slot) (hslot : st.consumer.heldSlot = some slot) (k offset : Nat) :
    (s.put i p st port lines queue).fillBeat i p k offset =
      (s.put i p (st.fillAnswered offset)
        (Port.joinSegment { port with txn := some { t with outstanding := t.outstanding + 1 } } .hold .read
          (slotAddress st.desc slot offset) (st.ring.binding i)
          { beat := k, data := none, frame := st.consumed - 1#32, entry := 0, last := false })
        lines queue).arbitrate := by
  simp only [State.fillBeat, State.put_stream, hmode, hsource, hslot, State.put_fillAnswered, State.put_binding,
    State.put_forward _ _ _ _ _ _ _ ht]

/-- R90: the record of a stream when a fill frame is counted. -/
def Stream.fillCounted (st : Stream) : Stream :=
  { st with
    consumer := { st.consumer with tally := tallyUp st.consumer.tally, verdict := .fill }
    counters := { st.counters with filled := counterUp st.counters.filled } }

/-- R90: a fill frame is counted, and its first beat answered. -/
theorem State.fillFrame_eq_put (s : State) (i : StreamId) (p : PortId) (k : Nat) :
    s.fillFrame i p k =
      (s.put i p (s.stream i).fillCounted (s.port p) s.lines s.queue).fillBeat i p k 0 := by
  conv_lhs => rw [← s.put_self i p]
  simp only [State.fillFrame, State.put_modConsumer, State.put_count]
  rfl

/-- R77: a continuation beat of a fill frame, in its place, is answered as the fill mode says. -/
theorem State.put_consumerBeat_of_fill {offset : Nat} (hended : st.state ≠ .ended)
    (hplace : st.consumer.placement = .inStep) (hposition : st.consumer.position = offset) (hoffset : offset ≠ 0)
    (hverdict : st.consumer.verdict = .fill) (k : Nat) :
    (s.put i p st port lines queue).consumerBeat i p k offset =
      (s.put i p st port lines queue).fillBeat i p k offset := by
  simp [State.consumerBeat, State.continueConsumer, hended, hplace, hposition, hoffset, hverdict]

/-- R90: the record after the first beat of a fill frame, in the words of the statement. -/
theorem Stream.fillAnswered_fillCounted (st : Stream) :
    st.fillCounted.fillAnswered 0 =
      { st with
        consumer := { st.consumer with
          tally := tallyUp st.consumer.tally
          position := positionAfterStart st
          verdict := if st.desc.frameBytes = 4 then .none else .fill }
        counters := { st.counters with filled := counterUp st.counters.filled } } := by
  have hfirst : 0 + 4 = st.fillCounted.desc.frameBytes ↔ st.desc.frameBytes = 4 := eq_comm
  simp only [Stream.fillAnswered, hfirst]
  rfl

/-- R23: the newest beat, just handed on, is answered. -/
theorem Port.beatAnswered_handed (ht : (s.port p).txn = some t) (hform : TransactionInForm t) (r : Response) :
    ({ s.port p with txn := some (readHanded t) } : Port).beatAnswered (readHanded t) t.position r =
      portAnswered s p t r := by
  have hport : ((s.modTxn p readHanded).answerBeat p t.position r).port p = portAnswered s p t r := by
    rw [State.answerBeat_handed ht hform, State.port_set_self]
  rwa [State.modTxn_eq_put ht 0, State.put_answerBeat (t := readHanded t) rfl, State.put_port] at hport

/-- Settles O44: a beat of a fill frame by the fill mode, once the frame is counted, and at a later offset. -/
theorem fillFrameIsAnsweredByTheFillMode : Obligations.FillFrameIsAnsweredByTheFillMode := by
  refine ⟨?first, ?later⟩
  case first =>
    rintro s i p k t st ht rfl
    rw [State.fillFrame_eq_put, ← Stream.fillAnswered_fillCounted]
    refine ⟨fun hmode => ?_, fun hmode => ?_, fun slot hmode hsource hslot => ?_⟩
    · exact State.put_fillBeat_of_zero (st := (s.stream i).fillCounted) ht hmode k 0
    · exact State.put_fillBeat_of_word (st := (s.stream i).fillCounted) ht hmode k 0
    · exact State.put_fillBeat_of_slot (st := (s.stream i).fillCounted) ht hmode hsource hslot k 0
  case later =>
    rintro s p i t offset st hdue hform hended rfl hoffset hplace hposition hverdict rfl
    rw [exec_readBeat_of_consumerBeatDue hdue, State.modTxn_eq_put hdue.1.1 i,
      State.put_consumerBeat_of_fill hended hplace hposition hoffset hverdict]
    refine ⟨fun hmode => ?_, fun hmode => ?_, fun slot hmode hsource hslot => ?_⟩
    · rw [State.put_fillBeat_of_zero rfl hmode, Port.beatAnswered_handed hdue.1.1 hform]
      rfl
    · rw [State.put_fillBeat_of_word rfl hmode, Port.beatAnswered_handed hdue.1.1 hform]
      rfl
    · rw [State.put_fillBeat_of_slot rfl hmode hsource hslot]
      rfl

end FrameStarts

end Sys2Proof.Machine

namespace Sys2Proof.Machine

open Sys2Proof Sys2Proof.Safety

/-! ## The release of the held slot at a frame start (R65, R94)

A room event places a held write of the producer. The read whose frame start brings it about is another transaction, on
another port, and the event reads nothing that handing on the read's beat changes: the two may be taken in either order. -/

section Resumption

variable {s : State} {p q : PortId} {i : StreamId} {t : Transaction} {st : Stream} {port : Port} {lines : Vector Line 8}
  {queue : NoticeQueue}

/-! ### A frame start of a read beside other events -/

theorem State.readStarted_stream (s : State) (i : StreamId) (p : PortId) :
    (s.readStarted i p).stream i = (s.stream i).atReadStart :=
  State.stream_modStream_self ..

theorem State.readStarted_port_ne (hq : q ≠ p) (i : StreamId) : (s.readStarted i p).port q = s.port q :=
  State.port_modTxn_ne s hq readHanded

theorem State.readStarted_binding (s : State) (i : StreamId) (p : PortId) :
    (s.readStarted i p).binding i = s.binding i := by
  rw [State.binding, State.readStarted_stream]
  rfl

/-- Two changes of port records that agree in either order. -/
theorem State.modPort_comm {f g : Port → Port} (h : ∀ x, f (g x) = g (f x)) :
    (s.modPort p f).modPort q g = (s.modPort q g).modPort p f := by
  have hports : ((s.modPort p f).modPort q g).ports = ((s.modPort q g).modPort p f).ports :=
    State.ports_ext fun r => by
      by_cases hpq : p = q
      · subst hpq
        by_cases hr : r = p
        · subst hr; simp [h]
        · simp [hr]
      · by_cases hrq : r = q
        · subst hrq; simp [Ne.symm hpq]
        · by_cases hrp : r = p
          · subst hrp; simp [hpq]
          · simp [hrq, hrp]
  simp only [State.modPort] at hports ⊢
  rw [hports]

/-- R138: a grant takes a segment from a port; the transactions and the streams may change before or after it. -/
theorem State.arbitrate_readStarted (s : State) (i : StreamId) (p : PortId) :
    (s.readStarted i p).arbitrate = s.arbitrate.readStarted i p := by
  have hgrant (q : PortId) (g : Segment) (rest : List Segment) :
      (s.readStarted i p).grant q g rest = (s.grant q g rest).readStarted i p := by
    have hports := congrArg State.ports (State.modPort_comm (s := s) (p := p) (q := q)
      (f := fun port => { port with txn := port.txn.map readHanded })
      (g := fun port => { port with segments := rest, newestOpen := port.newestOpen && !rest.isEmpty }) fun _ => rfl)
    simp only [State.grant, State.readStarted, State.modTxn, State.modStream, State.modPort, State.port, State.stream]
      at hports ⊢
    rw [hports]
  have hsegments (q : PortId) : ((s.readStarted i p).port q).segments = (s.port q).segments := by
    by_cases hq : q = p
    · subst hq
      simp [State.readStarted]
    · rw [State.readStarted_port_ne hq]
  have hfirst (ps : List PortId) : (s.readStarted i p).grantFirst ps = (s.grantFirst ps).readStarted i p := by
    induction ps with
    | nil => rfl
    | cons q ps ih =>
      rw [State.grantFirst, State.grantFirst, hsegments]
      split
      · exact ih
      · exact hgrant q _ _
  unfold State.arbitrate
  rw [show (s.readStarted i p).memory = s.memory from rfl, show (s.readStarted i p).lastGranted = s.lastGranted from rfl]
  split
  · rfl
  · exact hfirst _

theorem State.put_port_ne (hq : q ≠ p) : (s.put i p st port lines queue).port q = s.port q :=
  State.port_modPort_ne s hq fun _ => port

/-- An event of stream `i` on another port than the read's. -/
theorem State.put_readStarted (hq : q ≠ p) :
    (s.put i q st port lines queue).readStarted i p = (s.readStarted i p).put i q st.atReadStart port lines queue := by
  have hv : q.val ≠ p.val := fun e => hq (Fin.ext e)
  simp [State.put, State.readStarted, State.modTxn, State.modPort, State.modStream, State.port, State.stream, hv,
    Vector.set_comm _ _ hv]

/-- R129: a line's readiness reads nothing that a frame start of a read changes. -/
theorem State.paceTest_readStarted (s : State) (i : StreamId) (p : PortId) :
    (s.readStarted i p).paceTest i = (s.paceTest i).readStarted i p := by
  rw [State.paceTest_eq, State.paceTest_eq, State.readStarted_stream]
  rfl

/-! ### The room event (R65) -/

/-- R65: the write `t` of the producer of stream `i`, an OPEN stream, on port `q` is held. -/
structure State.WriteHeld (s : State) (i : StreamId) (q : PortId) (t : Transaction) (h : Hold) : Prop where
  opened : (s.stream i).state = .opened
  phase : (s.stream i).producer.phase = .held
  port : q = (s.stream i).desc.producerPort
  txn : (s.port q).txn = some t
  cls : t.cls = some (.producer (s.binding i))
  hold : t.hold = some h

variable {x : Transaction} {h : Hold}

/-- R65: with no write held a room event changes nothing. -/
theorem State.roomEvent_of_none (hnone : ¬ ∃ q x h, s.WriteHeld i q x h) : s.roomEvent i = s := by
  unfold State.roomEvent
  dsimp only
  split
  · next hheld =>
    split
    · next x hx =>
      obtain ⟨htxn, hcls⟩ := Option.filter_eq_some_iff.mp hx
      split
      · next h hhold => exact absurd ⟨_, x, h, hheld.1, hheld.2, rfl, htxn, beq_iff_eq.mp hcls, hhold⟩ hnone
      · rfl
    · rfl
  · rfl

/-- R24, R28: a held write is on another port than a read. -/
theorem State.WriteHeld.ne (hw : s.WriteHeld i q x h) (ht : (s.port p).txn = some t)
    (hcls : t.cls = some (.consumer (s.binding i))) : q ≠ p := by
  rintro rfl
  obtain rfl : x = t := Option.some.inj (hw.txn.symm.trans ht)
  simp [hw.cls] at hcls

/-- R65: handing on the beat of a read leaves the write that is held. -/
theorem State.writeHeld_readStarted (ht : (s.port p).txn = some t) (hcls : t.cls = some (.consumer (s.binding i))) :
    (s.readStarted i p).WriteHeld i q x h ↔ s.WriteHeld i q x h := by
  have hp : ((s.readStarted i p).port p).txn = some (readHanded t) := by simp [State.readStarted, ht]
  constructor
  · intro hw
    have hq : q ≠ p := hw.ne hp (by rwa [State.readStarted_binding])
    obtain ⟨hopen, hphase, hport, htxn, hbound, hhold⟩ := hw
    rw [State.readStarted_stream] at hopen hphase hport
    rw [State.readStarted_port_ne hq] at htxn
    rw [State.readStarted_binding] at hbound
    exact ⟨hopen, hphase, hport, htxn, hbound, hhold⟩
  · intro hw
    have hq := hw.ne ht hcls
    obtain ⟨hopen, hphase, hport, htxn, hbound, hhold⟩ := hw
    refine ⟨?_, ?_, ?_, ?_, ?_, hhold⟩
    · rwa [State.readStarted_stream]
    · rwa [State.readStarted_stream]
    · rwa [State.readStarted_stream]
    · rwa [State.readStarted_port_ne hq]
    · rwa [State.readStarted_binding]

/-- A change of the pace lines reads no more of a state than the lines. -/
theorem State.mapLines_lines_congr {s s' : State} (h : s'.lines = s.lines) (f : Line → Line) :
    (s'.mapLines f).lines = (s.mapLines f).lines := by
  simp only [State.mapLines, State.line, h]

/-- R129, R130: the pace lines are tested and started against no more of a state than the lines, and the readiness of the
sides of the record. -/
theorem linesResumed_congr {s s' : State} {st st' : Stream} (hlines : s'.lines = s.lines)
    (hready : ∀ l : Line, LineReady st' l ↔ LineReady st l) (i : StreamId) (side : Side) :
    linesResumed s' i side st' = linesResumed s i side st := by
  have htested : linesTested s' i st' = linesTested s i st := by
    rw [linesTested_congr hready]
    exact State.mapLines_lines_congr hlines _
  rw [linesResumed, linesResumed, htested]
  exact State.mapLines_lines_congr (s := { s with lines := linesTested s i st })
    (s' := { s' with lines := linesTested s i st }) rfl _

/-- R128: the readiness of the sides is none of what a frame start of a read changes. -/
theorem lineReady_atReadStart (st : Stream) (l : Line) : LineReady st.atReadStart l ↔ LineReady st l := Iff.rfl

/-- R44, R77: a frame placed and a frame start of a read change different parts of a record. -/
theorem State.framePlaced_atReadStart (s : State) (i : StreamId) (p : PortId) (st : Stream) (data : Word) :
    (s.readStarted i p).framePlaced st.atReadStart.producerFlowing data =
      (s.framePlaced st.producerFlowing data).atReadStart := rfl

/-- R65, R77: a room event and the handing on of a read's beat may be taken in either order. -/
theorem State.roomEvent_readStarted (ht : (s.port p).txn = some t) (hcls : t.cls = some (.consumer (s.binding i))) :
    (s.readStarted i p).roomEvent i = (s.roomEvent i).readStarted i p := by
  by_cases hheld : ∃ q x h, s.WriteHeld i q x h
  · obtain ⟨q, x, h, hw⟩ := hheld
    have hq := hw.ne ht hcls
    have hlines := linesResumed_congr (s := s) (s' := s.readStarted i p) rfl
      (lineReady_atReadStart (s.framePlaced (s.stream i).producerFlowing h.data)) i .producer
    have hw' := (State.writeHeld_readStarted ht hcls).mpr hw
    rw [State.roomEvent_of_held hw.opened hw.phase hw.port hw.txn hw.cls hw.hold,
      State.roomEvent_of_held hw'.opened hw'.phase hw'.port hw'.txn hw'.cls hw'.hold, ← State.arbitrate_readStarted,
      State.put_readStarted hq, State.readStarted_stream, State.readStarted_port_ne hq, State.readStarted_binding,
      State.framePlaced_atReadStart, hlines]
    rfl
  · rw [State.roomEvent_of_none hheld, State.roomEvent_of_none]
    simpa only [State.writeHeld_readStarted ht hcls] using hheld

/-- R24, R65: a room event leaves the transaction of a read. -/
theorem State.roomEvent_port_txn (ht : (s.port p).txn = some t) (hcls : t.cls = some (.consumer (s.binding i))) :
    ((s.roomEvent i).port p).txn = some t := by
  by_cases hheld : ∃ q x h, s.WriteHeld i q x h
  · obtain ⟨q, x, h, hw⟩ := hheld
    have hq := hw.ne ht hcls
    rw [State.roomEvent_of_held hw.opened hw.phase hw.port hw.txn hw.cls hw.hold, State.arbitrate_port_txn, ← ht]
    exact congrArg Port.txn (State.put_port_ne (Ne.symm hq))
  · rwa [State.roomEvent_of_none hheld]

/-- From the record `st` to `st'` no more has changed than a room event changes: the producer side, but not whether it is
DONE. -/
structure Stream.ProducerMoved (st st' : Stream) : Prop where
  desc : st'.desc = st.desc
  state : st'.state = st.state
  session : st'.session = st.session
  occupancy : st'.occupancy = st.occupancy
  underrunAcked : st'.underrunAcked = st.underrunAcked
  consumer : st'.consumer = st.consumer
  done : st'.producer.phase = .done ↔ st.producer.phase = .done

/-- R65: a room event places a frame of its stream's producer, or changes nothing. -/
theorem State.roomEvent_record (s : State) (i : StreamId) : (s.stream i).ProducerMoved ((s.roomEvent i).stream i) := by
  by_cases hheld : ∃ q x h, s.WriteHeld i q x h
  · obtain ⟨q, x, h, hw⟩ := hheld
    rw [State.roomEvent_of_held hw.opened hw.phase hw.port hw.txn hw.cls hw.hold, State.arbitrate_stream, State.put_stream]
    have hflowing : (s.framePlaced (s.stream i).producerFlowing h.data).producer.phase = .flowing := rfl
    exact ⟨rfl, rfl, rfl, rfl, rfl, rfl, by simp [hflowing, hw.phase]⟩
  · rw [State.roomEvent_of_none hheld]
    exact ⟨rfl, rfl, rfl, rfl, rfl, rfl, Iff.rfl⟩

/-! ### The resumption (R93, R94) -/

/-- R94: the record of a stream after its held slot is released. -/
def Stream.slotReleased (st : Stream) : Stream :=
  { st with consumer := { st.consumer with heldSlot := none, holdSource := .word } }

/-- R94: with no slot held there is none to release. -/
theorem State.releaseHeldSlot_of_none (h : (s.stream i).consumer.heldSlot = none) :
    s.releaseHeldSlot i = s.modStream i Stream.slotReleased := by
  rw [State.releaseHeldSlot, h]
  rfl

/-- R65, R94, R129: a held slot is released as a room event of the producer and a test of both lines. -/
theorem State.releaseHeldSlot_of_held (h : (s.stream i).consumer.heldSlot ≠ none) :
    s.releaseHeldSlot i = ((s.modStream i Stream.slotReleased).roomEvent i).paceTest i :=
  if_pos (Option.isSome_iff_ne_none.mpr h)

/-- R77, R94: the release and the handing on of a read's beat may be taken in either order. -/
theorem State.releaseHeldSlot_readStarted (ht : (s.port p).txn = some t)
    (hcls : t.cls = some (.consumer (s.binding i))) (hheld : (s.stream i).consumer.heldSlot ≠ none) :
    (s.readStarted i p).releaseHeldSlot i = (s.releaseHeldSlot i).readStarted i p := by
  have hrecord : (s.readStarted i p).modStream i Stream.slotReleased =
      (s.modStream i Stream.slotReleased).readStarted i p :=
    (State.modStream_modStream (s.modTxn p readHanded) i Stream.atReadStart Stream.slotReleased).trans
      (State.modStream_modStream (s.modTxn p readHanded) i Stream.slotReleased Stream.atReadStart).symm
  have hbinding : (s.modStream i Stream.slotReleased).binding i = s.binding i := by
    rw [State.binding, State.stream_modStream_self]
    rfl
  have hheld' : ((s.readStarted i p).stream i).consumer.heldSlot ≠ none := by rwa [State.readStarted_stream]
  rw [State.releaseHeldSlot_of_held hheld, State.releaseHeldSlot_of_held hheld', hrecord,
    State.roomEvent_readStarted (s := s.modStream i Stream.slotReleased) ht (by rwa [hbinding]),
    State.paceTest_readStarted]

/-- R94: a frame start resumes the condition in the state its release leaves, with its tally. -/
theorem State.resumeUnderrun_congr {u v : State} (hrelease : u.releaseHeldSlot i = v.releaseHeldSlot i)
    (htally : (u.stream i).consumer.tally = (v.stream i).consumer.tally) (k : Nat) :
    u.resumeUnderrun i p k = v.resumeUnderrun i p k := by
  rw [State.resumeUnderrun, State.resumeUnderrun, hrelease, htally]

/-- R94: the record of a stream whose consumer side returns to FLOWING, no slot being held. -/
def Stream.consumerResumed (st : Stream) : Stream :=
  { st with consumer := { st.consumer with phase := .flowing, holdSource := .word } }

theorem Stream.slotReleased_consumerFlowing (hheld : st.consumer.heldSlot = none) :
    st.slotReleased.consumerFlowing = st.consumerResumed := by
  rw [Stream.slotReleased, ← hheld]
  rfl

/-- R94, R129, R130: with no slot held, a frame start resumes the condition: FLOWING, RESUMED posted, both lines tested, and
the frame REAL. -/
theorem State.put_resumeUnderrun (hheld : st.consumer.heldSlot = none) (k : Nat) :
    (s.put i p st port lines queue).resumeUnderrun i p k =
      (s.put i p st.consumerResumed port (linesTested { s with lines := lines } i st.consumerResumed)
        (queue.post .resumed (streamSubject i) .consumer st.consumer.tally 0#32)).startReal i p k := by
  rw [State.resumeUnderrun, State.releaseHeldSlot_of_none (by rwa [State.put_stream]), State.setConsumerPhase,
    ← Stream.slotReleased_consumerFlowing hheld]
  simp only [State.put_modStream, State.put_modConsumer, State.put_stream, State.put_post, State.put_paceTest]
  rfl

/-- R129: of the resumption the pace lines are tested against the phase alone. -/
theorem lineReady_consumerResumed (st : Stream) (l : Line) :
    LineReady st.atReadStart.consumerResumed l ↔ LineReady st.consumerFlowing l := Iff.rfl

/-- R65, R94: the release of a held slot is the record's part of it and a room event. -/
theorem State.releaseHeldSlot_record (hheld : (s.stream i).consumer.heldSlot ≠ none) :
    (s.stream i).slotReleased.ProducerMoved ((s.releaseHeldSlot i).stream i) := by
  have hrecord := State.roomEvent_record (s.modStream i Stream.slotReleased) i
  rw [State.stream_modStream_self] at hrecord
  rw [State.releaseHeldSlot_of_held hheld]
  exact hrecord

/-- R24, R94: it leaves the transaction of a read. -/
theorem State.releaseHeldSlot_port_txn (hheld : (s.stream i).consumer.heldSlot ≠ none) (ht : (s.port p).txn = some t)
    (hcls : t.cls = some (.consumer (s.binding i))) : ((s.releaseHeldSlot i).port p).txn = some t := by
  rw [State.releaseHeldSlot_of_held hheld]
  refine State.roomEvent_port_txn (s := s.modStream i Stream.slotReleased) ht ?_
  rw [hcls, State.binding, State.binding, State.stream_modStream_self]
  rfl

/-- R77, R94: where a slot is held, its release leaves the frame start due, and the condition to be resumed there. -/
theorem consumerBeatDue_releaseHeldSlot (hdue : ConsumerBeatDue s p i t)
    (hheld : (s.stream i).consumer.heldSlot ≠ none) : ConsumerBeatDue (s.releaseHeldSlot i) p i t := by
  obtain ⟨⟨ht, hread⟩, hcls, hopen⟩ := hdue
  have hrecord := State.releaseHeldSlot_record hheld
  have hdesc : ((s.releaseHeldSlot i).stream i).desc = (s.stream i).desc := hrecord.desc
  have hstate : ((s.releaseHeldSlot i).stream i).state = (s.stream i).state := hrecord.state
  have hsession : ((s.releaseHeldSlot i).stream i).session = (s.stream i).session := hrecord.session
  refine ⟨⟨State.releaseHeldSlot_port_txn hheld ht hcls, hread⟩, ?_, ?_⟩
  · rw [hcls, State.binding, State.binding, hdesc, hsession]
  · rwa [hstate]

theorem Stream.underrunMayResume_releaseHeldSlot (hheld : (s.stream i).consumer.heldSlot ≠ none) :
    ((s.releaseHeldSlot i).stream i).underrunMayResume = (s.stream i).underrunMayResume := by
  have hrecord := State.releaseHeldSlot_record hheld
  have hdesc : ((s.releaseHeldSlot i).stream i).desc = (s.stream i).desc := hrecord.desc
  have hstate : ((s.releaseHeldSlot i).stream i).state = (s.stream i).state := hrecord.state
  have hoccupancy : ((s.releaseHeldSlot i).stream i).occupancy = (s.stream i).occupancy :=
    hrecord.occupancy
  have hacked : ((s.releaseHeldSlot i).stream i).underrunAcked = (s.stream i).underrunAcked :=
    hrecord.underrunAcked
  have hphase : (((s.releaseHeldSlot i).stream i).producer.phase == .done) = ((s.stream i).producer.phase == .done) := by
    rw [Bool.eq_iff_iff, beq_iff_eq, beq_iff_eq, hrecord.done]
    rfl
  simp only [Stream.underrunMayResume, hdesc, hstate, hoccupancy, hacked, hphase]

/-- R94: where a slot is held, the beat that resumes the condition has the effect it has once the slot is released. -/
theorem exec_readBeat_of_heldSlot (hdue : ConsumerBeatDue s p i t) (hstart : ConsumerFrameStart s i t)
    (hended : (s.stream i).state ≠ .ended) (hphase : (s.stream i).consumer.phase = .underrun)
    (hmay : (s.stream i).underrunMayResume = true) (hheld : (s.stream i).consumer.heldSlot ≠ none) :
    exec (.readBeat p) s = exec (.readBeat p) (s.releaseHeldSlot i) := by
  have hrecord := State.releaseHeldSlot_record hheld
  have hdesc : ((s.releaseHeldSlot i).stream i).desc = (s.stream i).desc := hrecord.desc
  have hstate : ((s.releaseHeldSlot i).stream i).state = (s.stream i).state := hrecord.state
  have hconsumer : ((s.releaseHeldSlot i).stream i).consumer = (s.stream i).slotReleased.consumer :=
    hrecord.consumer
  have hended' : ((s.releaseHeldSlot i).stream i).state ≠ .ended := by rwa [hstate]
  have hstart' : ConsumerFrameStart (s.releaseHeldSlot i) i t := by
    rw [ConsumerFrameStart, beatOffset, hdesc, hconsumer]
    exact hstart
  have hphase' : ((s.releaseHeldSlot i).stream i).consumer.phase = .underrun := by rwa [hconsumer]
  have hdecision : ((s.readStarted i p).stream i).consumerDecision = .resume := by
    rw [State.readStarted_stream]
    exact Stream.consumerDecision_resume hended hphase hmay
  have hdecision' : (((s.releaseHeldSlot i).readStarted i p).stream i).consumerDecision = .resume := by
    rw [State.readStarted_stream]
    exact Stream.consumerDecision_resume hended' hphase' ((Stream.underrunMayResume_releaseHeldSlot hheld).trans hmay)
  have hrelease : (s.readStarted i p).releaseHeldSlot i = ((s.releaseHeldSlot i).readStarted i p).releaseHeldSlot i := by
    have hreleased : ((s.releaseHeldSlot i).stream i).atReadStart.slotReleased =
        ((s.releaseHeldSlot i).stream i).atReadStart := by
      simp only [Stream.slotReleased, Stream.atReadStart, consumerInStep, hconsumer]
    have hnone : (((s.releaseHeldSlot i).readStarted i p).stream i).consumer.heldSlot = none := by
      rw [State.readStarted_stream, ← hreleased]
      rfl
    rw [State.releaseHeldSlot_readStarted hdue.1.1 hdue.2.1 hheld, State.releaseHeldSlot_of_none hnone,
      State.modStream_id]
    rwa [State.readStarted_stream]
  have htally : ((s.readStarted i p).stream i).consumer.tally =
      (((s.releaseHeldSlot i).readStarted i p).stream i).consumer.tally := by
    rw [State.readStarted_stream, State.readStarted_stream, Stream.atReadStart, Stream.atReadStart, consumerInStep,
      consumerInStep, hconsumer]
    rfl
  rw [exec_readBeat_of_frameStart hdue hstart hended,
    exec_readBeat_of_frameStart (consumerBeatDue_releaseHeldSlot hdue hheld) hstart' hended', State.consumerFrameStart,
    State.consumerFrameStart, hdecision, hdecision']
  exact congrArg (fun x : State => Host.Outcome.next x.settle) (State.resumeUnderrun_congr hrelease htally t.position)

/-- Settles O43: with no slot held the record and the port after the frame start are those of O40, from the record that flows
again; with one held, its release before the beat is handed on and after it leave the same state. -/
theorem underrunResumesWithFramesAndConsent : Obligations.UnderrunResumesWithFramesAndConsent := by
  intro s p i t hdue hform hstart hphase hframes
  have hended : (s.stream i).state ≠ .ended := by
    rcases hframes with ⟨hstate, -⟩ | ⟨hstate, -⟩ <;> simp [hstate]
  have hmay := Stream.underrunMayResume_of_frames hframes
  have hdecision : (s.stream i).atReadStart.consumerDecision = .resume :=
    Stream.consumerDecision_resume hended hphase hmay
  refine ⟨?free, ?held⟩
  case free =>
    rintro slot hheld rfl
    have hheld' : (s.stream i).atReadStart.consumer.heldSlot = none := hheld
    rw [exec_readBeat_of_frameStart hdue hstart hended, State.readStarted_eq_put hdue.1.1, State.consumerFrameStart,
      State.put_stream, hdecision]
    simp only
    rw [State.put_resumeUnderrun hheld', State.put_startReal rfl, linesTested_congr (lineReady_consumerResumed _)]
    have hfirst : 0 + 4 = (s.stream i).atReadStart.consumerResumed.desc.frameBytes
        ↔ (s.stream i).desc.frameBytes = 4 := eq_comm
    simp only [Port.realBeat, Stream.realForwarded, Stream.deliveryEntered, hfirst, Transaction.markReal_handed hform]
    rfl
  case held =>
    intro hheld
    rw [exec_readBeat_of_heldSlot hdue hstart hended hphase hmay hheld, State.releaseHeldSlot_of_held hheld]
    rfl

end Resumption

end Sys2Proof.Machine

namespace Sys2Proof.Machine

open Sys2Proof Sys2Proof.Safety

/-! ## What a consume hands on leaves of the stream (R83, R85)

A consume raises C, advances the consumer cursor and sets delivered-once. What it then hands on, down to the end test and the
drain test, changes none of these, no P and no other stream. -/

/-- R5, R76: the descriptor, P, C, the consumer cursor and delivered-once of a stream. -/
def Stream.deliveryAccount (st : Stream) : Descriptor × Word × Word × Nat × Bool :=
  (st.desc, st.committed, st.consumed, st.consumerCursor, st.consumer.deliveredOnce)

/-- From the records `x` to `y`, no stream but stream `i` changes, and of stream `i` the account of its delivery stays. -/
structure DeliveryKept (i : StreamId) (x y : Vector Stream 16) : Prop where
  others : ∀ j : StreamId, j ≠ i → y[j] = x[j]
  account : y[i].deliveryAccount = x[i].deliveryAccount

namespace DeliveryKept

variable {s : State} {i : StreamId} {p : PortId} {k : Nat} {x : Vector Stream 16}

theorem refl (i : StreamId) (x : Vector Stream 16) : DeliveryKept i x x := ⟨fun _ _ => rfl, rfl⟩

/-- A change of stream `i` that keeps the account, whatever else of the state changes with it. -/
theorem change {s' : State} {st : Stream} (h : DeliveryKept i x s.streams) (hs : s'.streams = s.streams.set i st)
    (hst : st.deliveryAccount = (s.stream i).deliveryAccount) : DeliveryKept i x s'.streams := by
  rw [hs]
  have hself : (s.streams.set i st)[i] = st := State.stream_modStream_self s i fun _ => st
  refine ⟨fun j hj => (State.stream_modStream_ne s hj fun _ => st).trans (h.others j hj), ?_⟩
  rw [hself, hst]
  exact h.account

theorem forward (h : DeliveryKept i x s.streams) (kind : SegmentKind) (dir : Dir) (addr : Word) (b : Binding)
    (beat : SegmentBeat) : DeliveryKept i x (s.forward p kind dir addr b beat).streams :=
  (State.forward_streams ..).symm ▸ h

/-- R65: a room event places a frame of the stream's producer, or changes nothing. -/
theorem roomEvent (h : DeliveryKept i x s.streams) : DeliveryKept i x (s.roomEvent i).streams := by
  by_cases hheld : ∃ q x h, s.WriteHeld i q x h
  · obtain ⟨q, x, hold, hw⟩ := hheld
    rw [State.roomEvent_of_held hw.opened hw.phase hw.port hw.txn hw.cls hw.hold, State.arbitrate_streams]
    exact h.change rfl (by rfl)
  · rwa [State.roomEvent_of_none hheld]

/-! ### The verdict on a deferred read (R80, R81) -/

theorem startReal (h : DeliveryKept i x s.streams) : DeliveryKept i x (s.startReal i p k).streams := by
  have hentered : DeliveryKept i x
      (((s.modConsumer i fun cs =>
        { cs with delivery := cs.delivery ++ [(s.stream i).newDelivery], verdict := .real
                  nextEntry := cs.nextEntry + 1 }).spanConsumerStart i).paceFrameStart i .consumer).streams :=
    change (s := State.modConsumer _ i _) (h.change rfl (by rfl)) rfl (by rfl)
  unfold State.startReal State.forwardReal
  dsimp only
  split
  · exact hentered
  · exact forward (hentered.change rfl (by rfl)) ..

theorem fillFrame (h : DeliveryKept i x s.streams) : DeliveryKept i x (s.fillFrame i p k).streams := by
  have hcounted : DeliveryKept i x
      ((s.modConsumer i fun cs => { cs with tally := tallyUp cs.tally, verdict := .fill }).count i fun c =>
        { c with filled := counterUp c.filled }).streams :=
    change (s := State.modConsumer _ i _) (h.change rfl (by rfl)) rfl (by rfl)
  unfold State.fillFrame State.fillBeat
  dsimp only
  split
  · exact hcounted.change rfl (by rfl)
  · exact hcounted.change rfl (by rfl)
  · split
    · exact forward (hcounted.change rfl (by rfl)) ..
    · exact hcounted.change rfl (by rfl)

theorem beginUnderrun (h : DeliveryKept i x s.streams) : DeliveryKept i x (s.beginUnderrun i).streams := by
  have hbegun : DeliveryKept i x
      ((s.modStream i fun st =>
        { st with consumer := { st.consumer with phase := .underrun, tally := 0#32 }, underrunAcked := false }).post
          .underrun (streamSubject i) .consumer (s.stream i).consumed 0#32).streams := h.change rfl (by rfl)
  refine hbegun.change rfl ?_
  beta_reduce
  split <;> rfl

theorem resumeUnderrun (h : DeliveryKept i x s.streams) : DeliveryKept i x (s.resumeUnderrun i p k).streams := by
  have hreleased : DeliveryKept i x (s.releaseHeldSlot i).streams := by
    have hrecord : DeliveryKept i x
        (s.modConsumer i fun cs => { cs with heldSlot := none, holdSource := .word }).streams := h.change rfl (by rfl)
    unfold State.releaseHeldSlot
    dsimp only
    split
    · exact hrecord.roomEvent
    · exact hrecord
  have hflowing : DeliveryKept i x ((s.releaseHeldSlot i).setConsumerPhase i .flowing).streams :=
    hreleased.change rfl (by rfl)
  exact startReal (by exact hflowing)

theorem consumerFrameStart (h : DeliveryKept i x s.streams) :
    DeliveryKept i x (s.consumerFrameStart i p k).streams := by
  unfold State.consumerFrameStart
  split
  · exact h
  · exact h.startReal
  · exact h
  · exact h.beginUnderrun.fillFrame
  · exact h.change rfl (by rfl)
  · exact h.resumeUnderrun
  · exact h.fillFrame

theorem decideDeferred (h : DeliveryKept i x s.streams) : DeliveryKept i x (s.decideDeferred i).streams := by
  unfold State.decideDeferred
  dsimp only
  split
  · split
    · exact consumerFrameStart (by exact h)
    · exact h
  · exact h

/-! ### The end test and the drain test (R103, R108) -/

theorem fillHeldRead (h : DeliveryKept i x s.streams) : DeliveryKept i x (s.fillHeldRead i).streams := by
  unfold State.fillHeldRead
  split
  · split <;> exact h
  · exact h

theorem drainTest (h : DeliveryKept i x s.streams) : DeliveryKept i x (s.drainTest i).streams := by
  unfold State.drainTest
  split
  · exact h.fillHeldRead.change rfl (by rfl)
  · exact h

theorem endTest (h : DeliveryKept i x s.streams) : DeliveryKept i x (s.endTest i).streams := by
  unfold State.endTest
  dsimp only
  split
  · exact h.change rfl (by rfl)
  · exact h

theorem afterConsume (h : DeliveryKept i x s.streams) : DeliveryKept i x (s.afterConsume i).streams := by
  unfold State.afterConsume
  dsimp only
  split_ifs
  · exact drainTest (decideDeferred (by exact h))
  · exact drainTest (by exact h)
  · exact h.decideDeferred
  · exact h.drainTest

/-! ### The span's check (R120, R121) -/

theorem spanConsume (h : DeliveryKept i x s.streams) (slot : Nat) (faulted : Bool) :
    DeliveryKept i x (s.spanConsume i slot faulted).streams := by
  have hreport (sp : SpanState) : DeliveryKept i x (s.spanReport i sp faulted).streams := by
    unfold State.spanReport
    split
    · exact h.change rfl (by rfl)
    · split
      · exact h
      · split
        · exact h
        · exact h.change rfl (by rfl)
  unfold State.spanConsume
  dsimp only
  split
  · exact h
  · next sp _ =>
    have hreported : DeliveryKept i x
        (if lastOfSpan (s.stream i).desc slot then s.spanReport i sp faulted else s).streams := by
      split
      · exact hreport sp
      · exact h
    exact hreported.change rfl (by rfl)

/-- R83: a consume is the consume of the record, and what it hands on. -/
theorem consume {e : Delivery} {rest : List Delivery} (hlist : (s.stream i).consumer.delivery = e :: rest) :
    DeliveryKept i (s.modStream i Stream.consumeOldest).streams (s.consume i).streams := by
  have hspan := (refl i (s.modStream i Stream.consumeOldest).streams).spanConsume e.slot e.faulted
  unfold State.consume
  simp only [hlist]
  exact afterConsume (endTest (roomEvent (by exact hspan)))

end DeliveryKept

end Sys2Proof.Machine

namespace Sys2Proof.Machine

open Sys2Proof Sys2Proof.Safety

/-! ## The return of a REAL beat (R82, R83, R85, R118) -/

section RealReturn

variable {s : State} {i : StreamId} {b : Binding} {m : RealMark} {data : Word}

/-- R82: the newest entry of the delivery list, in the words of the statement. -/
theorem newestDelivery_eq (list : List Delivery) (id : Nat) :
    newestDelivery list id = decide (∃ e ∈ list.getLast?, e.id = id) := by
  unfold newestDelivery
  split
  · next e he => simp [he, beq_eq_decide]
  · next he => simp [he]

/-- R28, R36: a beat of a session that has ended reaches no stream. -/
theorem State.realReturned_of_closed (hlive : s.live b = false) (r : Response) : s.realReturned b m r = s := by
  simp [State.realReturned, hlive]

/-- R82, R118: a beat returned OKAY, its entry still in the delivery list, enters the accumulator. -/
theorem State.realReturned_okay (hlive : s.live b = true)
    (hmem : ∃ e ∈ (s.stream b.stream).consumer.delivery, e.id = m.entry) :
    s.realReturned b m { data := data, status := .okay } =
      if m.last = true then
        (s.spanConsumerBeat b.stream data
          (decide (∃ e ∈ (s.stream b.stream).consumer.delivery.getLast?, e.id = m.entry))).consume b.stream
      else
        s.spanConsumerBeat b.stream data
          (decide (∃ e ∈ (s.stream b.stream).consumer.delivery.getLast?, e.id = m.entry)) := by
  have hknown : ((s.stream b.stream).consumer.delivery.any fun e => e.id == m.entry) = true := by
    simpa using hmem
  simp only [State.realReturned, hlive, hknown, if_true, State.realOkay, newestDelivery_eq]

/-- R82, R85: a beat of an entry no longer in the list only reports its error. -/
theorem State.realReturned_of_gone (hlive : s.live b = true)
    (hgone : ∀ e ∈ (s.stream b.stream).consumer.delivery, e.id ≠ m.entry) (r : Response) :
    s.realReturned b m r = if r.status = .error then s.memfault b.stream .consumer m.frame else s := by
  have hknown : ((s.stream b.stream).consumer.delivery.any fun e => e.id == m.entry) = false := by
    simpa using hgone
  cases hr : r.status <;> simp [State.realReturned, hlive, hknown, hr]

/-- R85: the entry of a beat in error faulted, and reported by one MEMFAULT, where it was not faulted before. -/
def State.entryFaulted (s : State) (i : StreamId) (m : RealMark) : State :=
  if (s.stream i).consumer.delivery.any fun e => e.id == m.entry && !e.faulted then
    (s.modConsumer i fun cs => { cs with delivery := faultEntry cs.delivery m.entry }).memfault i .consumer m.frame
  else s

/-- R85, R118: a beat returned in error, its entry still in the delivery list, enters nothing, and its entry is faulted. -/
theorem State.realReturned_error (hlive : s.live b = true)
    (hmem : ∃ e ∈ (s.stream b.stream).consumer.delivery, e.id = m.entry) :
    s.realReturned b m { data := data, status := .error } =
      if m.last = true then
        ((s.entryFaulted b.stream m).spanConsumerError b.stream
          (decide (∃ e ∈ (s.stream b.stream).consumer.delivery.getLast?, e.id = m.entry))).consume b.stream
      else
        (s.entryFaulted b.stream m).spanConsumerError b.stream
          (decide (∃ e ∈ (s.stream b.stream).consumer.delivery.getLast?, e.id = m.entry)) := by
  have hknown : ((s.stream b.stream).consumer.delivery.any fun e => e.id == m.entry) = true := by
    simpa using hmem
  simp only [State.realReturned, hlive, hknown, if_true, State.realError, newestDelivery_eq]
  rfl

end RealReturn

end Sys2Proof.Machine

namespace Sys2Proof.Machine

open Sys2Proof Sys2Proof.Safety

section Consumes

variable {s : State} {i : StreamId} {b : Binding} {m : RealMark} {e : Delivery} {rest : List Delivery} {st st' : Stream}

/-! ## The counts after the last beat (R82, R83) -/

/-- R83: what a consume counts is a matter of the account alone. -/
theorem Stream.deliveryAccount_consumeOldest (h : st'.deliveryAccount = st.deliveryAccount) :
    st'.consumeOldest.deliveryAccount = st.consumeOldest.deliveryAccount := by
  simp only [Stream.deliveryAccount, Prod.mk.injEq] at h
  obtain ⟨hdesc, hcommitted, hconsumed, hcursor, -⟩ := h
  simp only [Stream.deliveryAccount, Stream.consumeOldest, hdesc, hcommitted, hconsumed, hcursor]

/-- R85: a fault changes no entry's place in the list, and no account. -/
theorem State.entryFaulted_kept (s : State) (i : StreamId) (m : RealMark) :
    DeliveryKept i s.streams (s.entryFaulted i m).streams
      ∧ ((s.entryFaulted i m).stream i).consumer.delivery.map (·.id) = (s.stream i).consumer.delivery.map (·.id) := by
  unfold State.entryFaulted
  split
  · have hfaulted : DeliveryKept i s.streams
        (s.modConsumer i fun cs => { cs with delivery := faultEntry cs.delivery m.entry }).streams :=
      (DeliveryKept.refl i s.streams).change rfl (by rfl)
    refine ⟨hfaulted.change rfl (by rfl), ?_⟩
    simp only [State.memfault, State.stream_count_self, State.post_stream, State.stream_modConsumer_self, faultEntry,
      List.map_map]
    refine List.map_congr_left fun e _ => ?_
    simp only [Function.comp_apply]
    split <;> rfl
  · exact ⟨.refl i _, rfl⟩

/-- R85: the record of a stream after an entry of its delivery list is faulted and counted. -/
def Stream.entryFaulted (entry : Nat) (st : Stream) : Stream :=
  { st with
    consumer := { st.consumer with delivery := faultEntry st.consumer.delivery entry }
    counters := { st.counters with memoryFaults := counterUp st.counters.memoryFaults } }

/-- R85: an entry that was not faulted is faulted and reported. -/
theorem State.entryFaulted_of_sound (h : ∃ e ∈ (s.stream i).consumer.delivery, e.id = m.entry ∧ e.faulted = false) :
    s.entryFaulted i m =
      (s.modStream i (Stream.entryFaulted m.entry)).post .memfault (streamSubject i) .consumer m.frame 0#32 := by
  have hany : ((s.stream i).consumer.delivery.any fun e => e.id == m.entry && !e.faulted) = true := by simpa using h
  have hchanges : s.entryFaulted i m =
      ((s.modStream i fun st =>
        { st with consumer := { st.consumer with delivery := faultEntry st.consumer.delivery m.entry } }).modStream i
          fun st =>
            { st with counters := { st.counters with memoryFaults := counterUp st.counters.memoryFaults } }).post
        .memfault (streamSubject i) .consumer m.frame 0#32 := if_pos hany
  rw [hchanges, State.modStream_modStream]
  rfl

/-- R85, R118: an entry is faulted and reported, and an open checkpoint of its frame fixed. -/
theorem State.spanConsumerError_entryFaulted
    (h : ∃ e ∈ (s.stream i).consumer.delivery, e.id = m.entry ∧ e.faulted = false) (newest : Bool) :
    (s.entryFaulted i m).spanConsumerError i newest =
      (s.modStream i fun st =>
        { st.entryFaulted m.entry with span := st.span.map fun sp => sp.setCheckpoint newest }).post
        .memfault (streamSubject i) .consumer m.frame 0#32 := by
  have hchanges := State.modStream_modStream s i (Stream.entryFaulted m.entry) fun st =>
    { st with span := st.span.map fun sp => sp.setCheckpoint newest }
  rw [State.entryFaulted_of_sound h]
  exact congrArg (State.post · .memfault (streamSubject i) .consumer m.frame 0#32) hchanges

/-- R85: an entry already faulted is not reported again. -/
theorem State.entryFaulted_of_faulted
    (h : ∀ e ∈ (s.stream i).consumer.delivery, e.id = m.entry → e.faulted = true) : s.entryFaulted i m = s := by
  refine if_neg ?_
  simpa using h

/-- R82, R85: the last beat of a frame consumes the oldest, whatever its status, in a state whose account is that of `s`. -/
theorem State.realReturned_of_last (hlive : s.live b = true)
    (hmem : ∃ e ∈ (s.stream b.stream).consumer.delivery, e.id = m.entry) (hlast : m.last = true) (r : Response) :
    ∃ u : State, s.realReturned b m r = u.consume b.stream ∧ DeliveryKept b.stream s.streams u.streams
      ∧ (u.stream b.stream).consumer.delivery.map (·.id) = (s.stream b.stream).consumer.delivery.map (·.id) := by
  obtain ⟨data, status⟩ := r
  cases status with
  | okay =>
    rw [State.realReturned_okay hlive hmem, if_pos hlast]
    refine ⟨_, rfl, (DeliveryKept.refl _ s.streams).change rfl (by rfl), ?_⟩
    rw [State.spanConsumerBeat, State.stream_modSpan_self]
  | error =>
    obtain ⟨hkept, hids⟩ := s.entryFaulted_kept b.stream m
    rw [State.realReturned_error hlive hmem, if_pos hlast]
    refine ⟨_, rfl, hkept.change rfl (by rfl), ?_⟩
    rw [State.spanConsumerError, State.stream_modSpan_self]
    exact hids

/-- R83: a consume counts the oldest frame of its stream, and leaves the other streams. -/
theorem State.consume_kept (h : (s.stream i).consumer.delivery ≠ []) :
    (∀ j, j ≠ i → (s.consume i).stream j = s.stream j)
      ∧ ((s.consume i).stream i).deliveryAccount = (s.stream i).consumeOldest.deliveryAccount := by
  obtain ⟨e, rest, hlist⟩ := List.exists_cons_of_ne_nil h
  have hkept := DeliveryKept.consume hlist
  refine ⟨fun j hj => (hkept.others j hj).trans (State.stream_modStream_ne s hj _), hkept.account.trans ?_⟩
  exact congrArg Stream.deliveryAccount (State.stream_modStream_self s i _)

/-- R82, R83: the return of a frame's last beat, its entry still in the list, counts one frame. -/
theorem State.realReturned_kept (hlive : s.live b = true)
    (hmem : ∃ e ∈ (s.stream b.stream).consumer.delivery, e.id = m.entry) (hlast : m.last = true) (r : Response) :
    (∀ j, j ≠ b.stream → (s.realReturned b m r).stream j = s.stream j)
      ∧ ((s.realReturned b m r).stream b.stream).deliveryAccount
        = (s.stream b.stream).consumeOldest.deliveryAccount := by
  obtain ⟨u, hu, hkept, hids⟩ := State.realReturned_of_last hlive hmem hlast r
  have hsome : (u.stream b.stream).consumer.delivery ≠ [] := by
    obtain ⟨e, he, -⟩ := hmem
    intro hnil
    rw [hnil] at hids
    exact List.ne_nil_of_mem he (List.map_eq_nil_iff.mp hids.symm)
  obtain ⟨hothers, haccount⟩ := State.consume_kept hsome
  rw [hu]
  exact ⟨fun j hj => (hothers j hj).trans (hkept.others j hj),
    haccount.trans (Stream.deliveryAccount_consumeOldest hkept.account)⟩

/-! ## After a consume (R81, R108) -/

/-- R108: a drained stream, in the words of the statement. -/
theorem Stream.drained_iff (st : Stream) :
    st.drained = true ↔ st.state = .draining ∧ st.committed = st.consumed ∧ st.producer.inFlight = [] := by
  have hnone : st.occupancy = 0 ↔ st.committed = st.consumed := by
    rw [Stream.occupancy]
    constructor
    · intro h
      bv_omega
    · rintro h
      simp [h]
  simp [Stream.drained, hnone, and_assoc]

/-- R108: the drain test reads of a stream the state, the occupancy and whether a frame is in flight. -/
theorem State.drained_of_ring {u : State} {f : Ring → Ring} (hdrained : (s.stream i).drained = true)
    (hu : u.core.ring i = f (s.core.ring i))
    (hf : (f (s.core.ring i)).state = (s.core.ring i).state
      ∧ (f (s.core.ring i)).occupancy = (s.core.ring i).occupancy
      ∧ (f (s.core.ring i)).inFlight = (s.core.ring i).inFlight) : (u.stream i).drained = true := by
  have hring (st : Stream) :
      st.drained = (st.ring.state == .draining && st.ring.occupancy == 0 && st.ring.inFlight.isEmpty) := by
    simp [Stream.drained]
  obtain ⟨hstate, hoccupancy, hflight⟩ := hf
  rw [← hu, State.core_ring, State.core_ring] at hstate hoccupancy hflight
  rw [hring, hstate, hoccupancy, hflight, ← hring, hdrained]

/-- R81, R83: a consume that leaves a frame in delivery, or no frame start deferred, is followed by the drain test. -/
theorem State.afterConsume_of_drain (h : s.hasDeferred i = false ∨ (s.stream i).consumer.delivery ≠ []) :
    s.afterConsume i = s.drainTest i := by
  refine if_neg ?_
  rw [Bool.and_eq_true, List.isEmpty_iff]
  rintro ⟨hdeferred, hempty⟩
  rcases h with h | h
  · simp [h] at hdeferred
  · exact h hempty

/-- R81: a frame start deferred behind the frame consumed is decided. -/
theorem State.afterConsume_of_deferred (hdeferred : s.hasDeferred i = true)
    (hempty : (s.stream i).consumer.delivery = []) (hdrained : (s.stream i).drained = false) :
    s.afterConsume i = s.decideDeferred i := by
  simp [State.afterConsume, hdeferred, hempty, hdrained]

/-- R108: where both are due, the free choice takes one of them first. -/
theorem State.afterConsume_of_meeting (hdeferred : s.hasDeferred i = true)
    (hempty : (s.stream i).consumer.delivery = []) (hdrained : (s.stream i).drained = true) :
    s.afterConsume i = State.drainTest { s with choices := s.choices + 1 } i
      ∨ s.afterConsume i = State.drainTest (State.decideDeferred { s with choices := s.choices + 1 } i) i := by
  have hboth : s.afterConsume i =
      if Config.deferredFirst s.choices then
        State.drainTest (State.decideDeferred { s with choices := s.choices + 1 } i) i
      else State.drainTest { s with choices := s.choices + 1 } i := by
    simp [State.afterConsume, hdeferred, hempty, hdrained]
  rw [hboth]
  split
  · exact .inr rfl
  · exact .inl rfl

/-! ### The drain test of a drained stream (R108) -/

theorem State.fillHeldRead_streams (s : State) (i : StreamId) : (s.fillHeldRead i).streams = s.streams := by
  unfold State.fillHeldRead
  split
  · split <;> rfl
  · rfl

theorem State.fillHeldRead_choices (s : State) (i : StreamId) : (s.fillHeldRead i).choices = s.choices := by
  unfold State.fillHeldRead
  split
  · split <;> rfl
  · rfl

/-- R108: the drain test of a drained stream closes it, and makes no choice. -/
theorem State.drainTest_of_drained (h : (s.stream i).drained = true) :
    ((s.drainTest i).stream i).state = .closed ∧ (s.drainTest i).choices = s.choices
      ∧ ((s.drainTest i).stream i).consumed = (s.stream i).consumed := by
  have hcomplete : s.drainTest i = s.completeDrain i := if_pos h
  have hstream : (s.fillHeldRead i).stream i = s.stream i := congrArg (·[i]) (s.fillHeldRead_streams i)
  have hclosed : (s.completeDrain i).stream i = (s.stream i).closedRecord := by
    rw [State.completeDrain, State.post_stream, State.becomeClosed, State.paceUnbind_stream, State.stream_modStream_self,
      hstream]
  rw [hcomplete, hclosed]
  exact ⟨rfl, s.fillHeldRead_choices i, rfl⟩

/-- R91: a fill frame makes no choice. -/
theorem State.fillFrame_choices (s : State) (i : StreamId) (p : PortId) (k : Nat) :
    (s.fillFrame i p k).choices = s.choices := by
  unfold State.fillFrame State.fillBeat
  dsimp only
  split
  · rfl
  · rfl
  · split
    · rw [State.forward, State.arbitrate_choices]
      rfl
    · rfl

/-- R80, R108: a frame start in a drained stream finds nothing available: it leaves the stream drained. -/
theorem State.consumerFrameStart_of_drained (hdrained : (s.stream i).drained = true)
    (hphase : (s.stream i).consumer.phase = .flowing) (hempty : (s.stream i).consumer.delivery = []) (p : PortId)
    (k : Nat) :
    ((s.consumerFrameStart i p k).stream i).drained = true ∧ (s.consumerFrameStart i p k).choices = s.choices := by
  have hdrained' := hdrained
  simp only [Stream.drained, Bool.and_eq_true, beq_iff_eq] at hdrained'
  obtain ⟨⟨hdraining, hoccupancy⟩, -⟩ := hdrained'
  have hended : (s.stream i).state ≠ .ended := by simp [hdraining]
  have havailable : (s.stream i).available = 0 := by simp [Stream.available, hoccupancy]
  cases hpolicy : (s.stream i).desc.emptyPolicy with
  | fill =>
    have hdecision := Stream.consumerDecision_underrun hended hphase havailable hempty hpolicy
    rw [State.consumerFrameStart, hdecision]
    refine ⟨State.drained_of_ring (f := .underrun (s.stream i).reservedSlot) hdrained ?_ ⟨rfl, rfl, rfl⟩,
      State.fillFrame_choices ..⟩
    rw [State.fillFrame_core, State.beginUnderrun_core, Core.modRing_ring_self]
  | wait =>
    have hdecision := Stream.consumerDecision_wait hended hphase havailable hempty hpolicy
    rw [State.consumerFrameStart, hdecision]
    refine ⟨State.drained_of_ring (f := .withConsumerPhase .waiting) hdrained ?_ ⟨rfl, rfl, rfl⟩, rfl⟩
    rw [State.waitFrame_core, Core.modClaim_ring, Core.modRing_ring_self]

/-- R81, R108: the decision of a deferred frame start leaves a drained stream drained, and makes no choice. -/
theorem State.decideDeferred_of_drained (hdrained : (s.stream i).drained = true)
    (hphase : (s.stream i).consumer.phase = .flowing) (hempty : (s.stream i).consumer.delivery = []) :
    ((s.decideDeferred i).stream i).drained = true ∧ (s.decideDeferred i).choices = s.choices := by
  unfold State.decideDeferred
  dsimp only
  split
  · split
    · exact State.consumerFrameStart_of_drained (s := s.modTxn _ _) hdrained hphase hempty _ _
    · exact ⟨hdrained, rfl⟩
  · exact ⟨hdrained, rfl⟩

/-- R81, R108: whichever is taken first, the stream closes, one choice is made, and C stays. -/
theorem State.afterConsume_closes (hdeferred : s.hasDeferred i = true) (hempty : (s.stream i).consumer.delivery = [])
    (hdrained : (s.stream i).drained = true) (hphase : (s.stream i).consumer.phase = .flowing) :
    ((s.afterConsume i).stream i).state = .closed ∧ (s.afterConsume i).choices = s.choices + 1
      ∧ ((s.afterConsume i).stream i).consumed = (s.stream i).consumed := by
  rcases State.afterConsume_of_meeting hdeferred hempty hdrained with hfirst | hfirst
  · rw [hfirst]
    exact State.drainTest_of_drained (s := { s with choices := s.choices + 1 }) hdrained
  · obtain ⟨hstill, hchoices⟩ :=
      State.decideDeferred_of_drained (s := { s with choices := s.choices + 1 }) hdrained hphase hempty
    have haccount := ((DeliveryKept.refl i s.streams).decideDeferred (s := { s with choices := s.choices + 1 })).account
    simp only [Stream.deliveryAccount, Prod.mk.injEq] at haccount
    obtain ⟨-, -, hconsumed, -⟩ := haccount
    obtain ⟨hclosed, hsame, hcount⟩ := State.drainTest_of_drained hstill
    rw [hfirst]
    exact ⟨hclosed, hsame.trans hchoices, hcount.trans hconsumed⟩

/-- R83: a consume takes the oldest frame out of the list, and the blocks take it in their order. -/
theorem State.consume_of_cons (hlist : (s.stream i).consumer.delivery = e :: rest) :
    s.consume i =
      State.afterConsume (State.endTest (State.roomEvent (State.paceCount
        ((s.modStream i Stream.consumeOldest).spanConsume i e.slot e.faulted) i .consumer) i) i) i := by
  simp only [State.consume, hlist]

theorem State.consume_of_nil (hlist : (s.stream i).consumer.delivery = []) : s.consume i = s := by
  simp only [State.consume, hlist]

/-- Settles O49: what a return hands to the Consumer Path, what a consume of the record hands on, that nothing handed on
disturbs the counts or another stream, and that a frame start in a drained stream leaves it drained. -/
theorem returnOfTheLastBeatConsumesTheFrame : Obligations.ReturnOfTheLastBeatConsumesTheFrame := by
  refine ⟨fun s b m r e rest => ⟨fun hclosed => State.realReturned_of_closed hclosed r, ?counts⟩, ?beat,
    fun s i e rest => ⟨State.consume_of_nil, ?consume, State.afterConsume_of_drain, ?deferred⟩, ?meeting⟩
  case counts =>
    intro hlive hlist hmem hlast
    rw [← hlist] at hmem
    obtain ⟨hothers, haccount⟩ := State.realReturned_kept hlive hmem hlast r
    have hquiet := s.realReturned_quiet b m r
    simp only [Stream.deliveryAccount, Prod.mk.injEq] at haccount
    simp only [State.quiet, Prod.mk.injEq] at hquiet
    obtain ⟨-, hcommitted, hconsumed, hcursor, honce⟩ := haccount
    obtain ⟨-, hspi, htimebase, -⟩ := hquiet
    exact ⟨hconsumed, hcursor, honce, hcommitted, hothers, hspi, htimebase⟩
  case beat =>
    rintro s u b m data newest hlive rfl
    refine ⟨fun hmem hu => ?okay, fun hgone => ?gone, fun hsound hu => ?fault, fun hmem hfaulted hu => ?again⟩
    case okay =>
      rw [State.realReturned_okay hlive hmem, hu]
      rfl
    case gone =>
      rw [State.realReturned_of_gone hlive hgone, State.realReturned_of_gone hlive hgone]
      exact ⟨rfl, rfl⟩
    case fault =>
      have hmem : ∃ e ∈ (s.stream b.stream).consumer.delivery, e.id = m.entry :=
        hsound.imp fun e ⟨he, hid, _⟩ => ⟨he, hid⟩
      rw [State.realReturned_error hlive hmem, State.spanConsumerError_entryFaulted hsound, hu]
      rfl
    case again =>
      rw [State.realReturned_error hlive hmem, State.entryFaulted_of_faulted hfaulted, hu]
      rfl
  case consume =>
    intro hlist
    rw [State.consume_of_cons hlist, State.modStream, Stream.consumeOldest, hlist]
    rfl
  case deferred =>
    intro hdeferred hempty hnot
    refine State.afterConsume_of_deferred hdeferred hempty (Bool.eq_false_iff.mpr fun hdrained => ?_)
    obtain ⟨hdraining, hcounts, hflight⟩ := (Stream.drained_iff _).mp hdrained
    rcases hnot with h | h | h
    · exact h hdraining
    · exact h hcounts
    · exact h hflight
  case meeting =>
    intro s i hdraining hcounts hflight hempty hdeferred hphase
    have hdrained := (Stream.drained_iff _).mpr ⟨hdraining, hcounts, hflight⟩
    obtain ⟨hclosed, hchoices, hconsumed⟩ := State.afterConsume_closes hdeferred hempty hdrained hphase
    exact ⟨hclosed, hchoices, hconsumed, State.afterConsume_of_meeting hdeferred hempty hdrained⟩

end Consumes

end Sys2Proof.Machine

namespace Sys2Proof.Machine

open Sys2Proof Sys2Proof.Safety

/-! ## The management port apart (R157)

No operation of the streams, the ports and the memory port reads the management port, so a change of it may be made
before or after the operation. A command's own effect can so be read apart from the frame that brought it. -/

section Apart

variable (s : State) (f : Management → Management) (i : StreamId) (p : PortId)

/-- An operation with a case makes the same choice whatever the management port holds. -/
theorem State.modSpi_ite {c : Prop} {dec dec' : Decidable c} {a b a' b' : State} (ha : c → a' = a.modSpi f)
    (hb : ¬ c → b' = b.modSpi f) : @ite State c dec' a' b' = (@ite State c dec a b).modSpi f := by
  by_cases hc : c
  · rw [if_pos hc, if_pos hc, ha hc]
  · rw [if_neg hc, if_neg hc, hb hc]

/-! ### Single updates -/

@[simp] theorem State.modSpi_binding : (s.modSpi f).binding i = s.binding i := rfl
@[simp] theorem State.modSpi_producerTxn : (s.modSpi f).producerTxn i = s.producerTxn i := rfl
@[simp] theorem State.modSpi_consumerTxn : (s.modSpi f).consumerTxn i = s.consumerTxn i := rfl
@[simp] theorem State.modSpi_modStream (g : Stream → Stream) :
    (s.modSpi f).modStream i g = (s.modStream i g).modSpi f := rfl
@[simp] theorem State.modSpi_modProducer (g : ProducerSide → ProducerSide) :
    (s.modSpi f).modProducer i g = (s.modProducer i g).modSpi f := rfl
@[simp] theorem State.modSpi_modConsumer (g : ConsumerSide → ConsumerSide) :
    (s.modSpi f).modConsumer i g = (s.modConsumer i g).modSpi f := rfl
@[simp] theorem State.modSpi_count (g : Counters → Counters) : (s.modSpi f).count i g = (s.count i g).modSpi f := rfl
@[simp] theorem State.modSpi_modSpan (g : SpanState → SpanState) :
    (s.modSpi f).modSpan i g = (s.modSpan i g).modSpi f := rfl
@[simp] theorem State.modSpi_modPort (g : Port → Port) : (s.modSpi f).modPort p g = (s.modPort p g).modSpi f := rfl
@[simp] theorem State.modSpi_modTxn (g : Transaction → Transaction) :
    (s.modSpi f).modTxn p g = (s.modTxn p g).modSpi f := rfl
@[simp] theorem State.modSpi_answerBeat (k : Nat) (r : Response) :
    (s.modSpi f).answerBeat p k r = (s.answerBeat p k r).modSpi f := rfl
@[simp] theorem State.modSpi_post (kind : NoticeKind) (subject : Byte) (side : NoticeSide) (value1 value2 : Word) :
    (s.modSpi f).post kind subject side value1 value2 = (s.post kind subject side value1 value2).modSpi f := rfl
@[simp] theorem State.modSpi_paceCount (side : Side) : (s.modSpi f).paceCount i side = (s.paceCount i side).modSpi f := rfl
@[simp] theorem State.modSpi_paceTest : (s.modSpi f).paceTest i = (s.paceTest i).modSpi f := rfl
@[simp] theorem State.modSpi_paceFrameStart (side : Side) :
    (s.modSpi f).paceFrameStart i side = (s.paceFrameStart i side).modSpi f := rfl
@[simp] theorem State.modSpi_paceDrop (side : Side) : (s.modSpi f).paceDrop i side = (s.paceDrop i side).modSpi f := rfl
@[simp] theorem State.modSpi_becomeClosed : (s.modSpi f).becomeClosed i = (s.becomeClosed i).modSpi f := rfl
@[simp] theorem State.modSpi_beginUnderrun : (s.modSpi f).beginUnderrun i = (s.beginUnderrun i).modSpi f := rfl
@[simp] theorem State.modSpi_waitFrame : (s.modSpi f).waitFrame i p = (s.waitFrame i p).modSpi f := rfl

/-! ### The Producer Path -/

@[simp] theorem State.modSpi_arbitrate : (s.modSpi f).arbitrate = s.arbitrate.modSpi f := by
  have hfirst (ps : List PortId) : (s.modSpi f).grantFirst ps = (s.grantFirst ps).modSpi f := by
    induction ps with
    | nil => rfl
    | cons p ps ih =>
      rw [State.grantFirst, State.grantFirst, State.modSpi_port]
      split
      · exact ih
      · rfl
  rw [State.arbitrate, State.arbitrate, State.modSpi_memory]
  split
  · rfl
  · exact hfirst _

@[simp] theorem State.modSpi_forward (kind : SegmentKind) (dir : Dir) (addr : Word) (b : Binding) (beat : SegmentBeat) :
    (s.modSpi f).forward p kind dir addr b beat = (s.forward p kind dir addr b beat).modSpi f := by
  simp [State.forward]

@[simp] theorem State.modSpi_startPlaced (k : Nat) (data : Word) :
    (s.modSpi f).startPlaced i p k data = (s.startPlaced i p k data).modSpi f := by
  simp only [State.startPlaced, State.forwardPlaced, State.modSpi_paceFrameStart, State.modSpi_stream]
  split
  · rfl
  · simp only [State.spanProducerBeat, State.modSpi_modProducer, State.modSpi_modSpan, State.modSpi_forward]
    rfl

@[simp] theorem State.modSpi_roomEvent : (s.modSpi f).roomEvent i = (s.roomEvent i).modSpi f := by
  refine State.modSpi_ite f (fun _ => ?_) fun _ => rfl
  rw [State.modSpi_producerTxn]
  split
  · split
    · simp [State.setProducerPhase, State.endHold, State.enterFrame, State.spanProducerStart]
    · rfl
  · rfl

@[simp] theorem State.modSpi_excessFrame : (s.modSpi f).excessFrame i p = (s.excessFrame i p).modSpi f := by
  have habsorb (u : State) : (u.modSpi f).absorbFrame i p = (u.absorbFrame i p).modSpi f := rfl
  rw [State.excessFrame, State.excessFrame, ← habsorb]
  exact congrArg (State.absorbFrame · i p) (State.modSpi_ite f (fun _ => rfl) fun _ => rfl)

/-! ### The Consumer Path -/

@[simp] theorem State.modSpi_startReal (k : Nat) :
    (s.modSpi f).startReal i p k = (s.startReal i p k).modSpi f := by
  simp only [State.startReal, State.forwardReal, State.spanConsumerStart, State.modSpi_stream, State.modSpi_modConsumer,
    State.modSpi_modSpan, State.modSpi_paceFrameStart]
  split
  · rfl
  · simp

@[simp] theorem State.modSpi_fillFrame (k : Nat) : (s.modSpi f).fillFrame i p k = (s.fillFrame i p k).modSpi f := by
  simp only [State.fillFrame, State.fillBeat, State.modSpi_modConsumer, State.modSpi_count, State.modSpi_stream]
  split
  · rfl
  · rfl
  · split
    · simp
    · rfl

@[simp] theorem State.modSpi_resumeUnderrun (k : Nat) :
    (s.modSpi f).resumeUnderrun i p k = (s.resumeUnderrun i p k).modSpi f := by
  have hrelease : (s.modSpi f).releaseHeldSlot i = (s.releaseHeldSlot i).modSpi f :=
    State.modSpi_ite f (fun _ => by simp) fun _ => rfl
  simp [State.resumeUnderrun, hrelease, State.setConsumerPhase]

@[simp] theorem State.modSpi_decideDeferred : (s.modSpi f).decideDeferred i = (s.decideDeferred i).modSpi f := by
  have hstart (u : State) (p : PortId) (k : Nat) :
      (u.modSpi f).consumerFrameStart i p k = (u.consumerFrameStart i p k).modSpi f := by
    simp only [State.consumerFrameStart, State.modSpi_stream]
    split <;> simp [State.deferFrame]
  simp only [State.decideDeferred, State.modSpi_consumerTxn, State.modSpi_stream]
  split
  · refine State.modSpi_ite f (fun _ => ?_) fun _ => rfl
    rw [State.modSpi_modTxn, hstart]
  · rfl

/-! ### Closing and consumes -/

@[simp] theorem State.modSpi_drainTest : (s.modSpi f).drainTest i = (s.drainTest i).modSpi f := by
  have hfill : (s.modSpi f).fillHeldRead i = (s.fillHeldRead i).modSpi f := by
    simp only [State.fillHeldRead, State.modSpi_consumerTxn, State.modSpi_stream]
    split
    · exact State.modSpi_ite f (fun _ => rfl) fun _ => rfl
    · rfl
  refine State.modSpi_ite f (fun _ => ?_) fun _ => rfl
  simp [State.completeDrain, hfill]

@[simp] theorem State.modSpi_endTest : (s.modSpi f).endTest i = (s.endTest i).modSpi f :=
  State.modSpi_ite f (fun _ => rfl) fun _ => rfl

@[simp] theorem State.modSpi_spanConsume (slot : Nat) (faulted : Bool) :
    (s.modSpi f).spanConsume i slot faulted = (s.spanConsume i slot faulted).modSpi f := by
  have hreport (sp : SpanState) : (s.modSpi f).spanReport i sp faulted = (s.spanReport i sp faulted).modSpi f := by
    refine State.modSpi_ite f (fun _ => rfl) fun _ => ?_
    split
    · rfl
    · exact State.modSpi_ite f (fun _ => rfl) fun _ => rfl
  simp only [State.spanConsume, State.modSpi_stream, State.modSpi_initial]
  split
  · rfl
  · rw [← State.modSpi_modSpan]
    exact congrArg (State.modSpan · i _) (State.modSpi_ite f (fun _ => hreport _) fun _ => rfl)

@[simp] theorem State.modSpi_consume : (s.modSpi f).consume i = (s.consume i).modSpi f := by
  have hafter (u : State) : (u.modSpi f).afterConsume i = (u.afterConsume i).modSpi f := by
    refine State.modSpi_ite f (fun _ => State.modSpi_ite f (fun _ => ?_) fun _ => State.modSpi_decideDeferred ..)
      fun _ => State.modSpi_drainTest ..
    refine State.modSpi_ite f (fun _ => ?_) fun _ => State.modSpi_drainTest { u with choices := u.choices + 1 } f i
    rw [← State.modSpi_drainTest]
    exact congrArg (State.drainTest · i) (State.modSpi_decideDeferred { u with choices := u.choices + 1 } f i)
  simp only [State.consume, State.modSpi_stream]
  split
  · rfl
  · simp [hafter]

/-! ### What is returned upstream -/

/-- R85: a beat returned in error, in two steps: the fault and its report, and what a last beat does. -/
theorem State.realError_eq (m : RealMark) :
    s.realError i m =
      if m.last then
        ((s.entryFaulted i m).spanConsumerError i (newestDelivery (s.stream i).consumer.delivery m.entry)).consume i
      else (s.entryFaulted i m).spanConsumerError i (newestDelivery (s.stream i).consumer.delivery m.entry) := rfl

@[simp] theorem State.modSpi_realReturned (b : Binding) (m : RealMark) (r : Response) :
    (s.modSpi f).realReturned b m r = (s.realReturned b m r).modSpi f := by
  have hlast (u : State) :
      (if m.last then (u.modSpi f).consume b.stream else u.modSpi f)
        = (if m.last then u.consume b.stream else u).modSpi f :=
    State.modSpi_ite f (fun _ => State.modSpi_consume ..) fun _ => rfl
  have hfaulted : (s.modSpi f).entryFaulted b.stream m = (s.entryFaulted b.stream m).modSpi f :=
    State.modSpi_ite f (fun _ => rfl) fun _ => rfl
  have hokay : (s.modSpi f).realOkay b.stream m r.data = (s.realOkay b.stream m r.data).modSpi f :=
    hlast (s.spanConsumerBeat ..)
  have herror : (s.modSpi f).realError b.stream m = (s.realError b.stream m).modSpi f := by
    rw [State.realError_eq, State.realError_eq, hfaulted]
    exact hlast ((s.entryFaulted b.stream m).spanConsumerError ..)
  refine State.modSpi_ite f (fun _ => ?_) fun _ => rfl
  dsimp only
  split
  · exact State.modSpi_ite f (fun _ => hokay) fun _ => rfl
  · exact State.modSpi_ite f (fun _ => herror) fun _ => rfl

@[simp] theorem State.modSpi_returnResponse (x : ResponseSlot) (r : Response) :
    (s.modSpi f).returnResponse p x r = (s.returnResponse p x r).modSpi f := by
  simp only [State.returnResponse, State.modSpi_port, State.modSpi_modPort]
  split
  · simp
  · rfl

/-- R23: returning what is due leaves the management port to its own changes. -/
@[simp] theorem State.modSpi_settle : (s.modSpi f).settle = s.settle.modSpi f := by
  have hreturn (n : Nat) : State.returnDue n (s.modSpi f) = (State.returnDue n s).modSpi f := by
    induction n generalizing s with
    | zero => rfl
    | succ n ih =>
      rw [State.returnDue, State.returnDue, show (s.modSpi f).firstDue = s.firstDue from rfl]
      split
      · rfl
      · rw [State.modSpi_returnResponse, ih]
  rw [State.settle, hreturn]
  rfl

end Apart
end Sys2Proof.Machine

namespace Sys2Proof.Machine

open Sys2Proof Sys2Proof.Safety

/-! ## The effect and the answer of a command (R152, R157) -/

section Answers

variable {s : State} {c : Instr} {command : State → State × Answer} {op : State → State} {code : ResultCode}

/-- R152, R157: a command row whose frame is complete has its effect, an operation that does not read the management port,
and is answered. -/
theorem exec_of_command (hexec : exec c s = .next (s.completeFrame (frameOf c) command))
    (hcommand : ∀ f, command (s.modSpi f) = (op (s.modSpi f), Answer.plain code))
    (hop : ∀ (t : State) f, op (t.modSpi f) = (op t).modSpi f) :
    exec c s = .next (op (answered s c code.byte [])) := by
  rw [hexec, State.completeFrame_eq, hcommand, ← hop]
  rfl

/-- R157: a command that is refused changes nothing. -/
theorem exec_of_refused (hexec : exec c s = .next (s.completeFrame (frameOf c) command))
    (hcommand : ∀ f, command (s.modSpi f) = (s.modSpi f, Answer.plain code)) :
    exec c s = .next (answered s c code.byte []) :=
  exec_of_command (op := id) hexec hcommand fun _ _ => rfl

end Answers

/-! ## The budget test and the end test (R98, R103) -/

section Budgets

variable {s : State} {i : StreamId}

/-- R98: away from the limit, or for an endless stream, the budget test does nothing. -/
theorem State.budgetTest_of_not_spent
    (h : (s.stream i).desc.budget = 0 ∨ (s.stream i).committed.toNat ≠ (s.stream i).budgetNow) : s.budgetTest i = s :=
  if_neg fun ⟨hbudget, hspent⟩ => h.elim hbudget (· hspent)

/-- R98: at the limit a pending extension is taken, and EXTENDED is posted. -/
theorem State.budgetTest_of_extension {n : Nat} (hbudget : (s.stream i).desc.budget ≠ 0)
    (hspent : (s.stream i).committed.toNat = (s.stream i).budgetNow) (hextension : (s.stream i).extension = some n) :
    s.budgetTest i =
      (s.modStream i fun st => { st with budgetNow := st.budgetNow + n, extension := none }).post .extended
        (streamSubject i) .producer (BitVec.ofNat 32 ((s.stream i).budgetNow + n)) 0#32 := by
  rw [State.budgetTest, if_pos ⟨hbudget, hspent⟩]
  simp only [hextension]

/-- R98, R132: at the limit with no extension pending the producer is DONE, and its line drops. -/
theorem State.budgetTest_of_no_extension (hbudget : (s.stream i).desc.budget ≠ 0)
    (hspent : (s.stream i).committed.toNat = (s.stream i).budgetNow) (hextension : (s.stream i).extension = none) :
    s.budgetTest i =
      ((s.setProducerPhase i .done).post .produced (streamSubject i) .producer (s.stream i).committed 0#32).paceDrop i
        .producer := by
  rw [State.budgetTest, if_pos ⟨hbudget, hspent⟩]
  simp only [hextension]

/-- R103: away from its conditions the end test does nothing. -/
theorem State.endTest_of_not_over
    (h : (s.stream i).state ≠ .opened ∨ (s.stream i).desc.budget = 0 ∨ (s.stream i).producer.phase ≠ .done
      ∨ (s.stream i).consumed.toNat ≠ (s.stream i).budgetNow) : s.endTest i = s := by
  refine if_neg ?_
  rintro ⟨hopen, hbudget, hdone, hspent⟩
  rcases h with h | h | h | h
  · exact h hopen
  · exact hbudget h
  · exact h hdone
  · exact h hspent

/-- Settles O50: each test by its condition; a drop tests the lines against the record that the test leaves. -/
theorem budgetAndEndTestsActAtTheLimit : Obligations.BudgetAndEndTestsActAtTheLimit := by
  refine fun s i => ⟨State.budgetTest_of_not_spent, fun hbudget hspent => ⟨fun n hextension => ?extended,
    fun hextension => ?produced⟩, State.endTest_of_not_over, fun hopen hbudget hdone hspent => ?ended⟩
  case extended =>
    rw [State.budgetTest_of_extension hbudget hspent hextension]
    rfl
  case produced =>
    rw [State.budgetTest_of_no_extension hbudget hspent hextension, State.paceDrop_eq, State.post_stream,
      State.setProducerPhase, State.stream_modProducer_self]
    rfl
  case ended =>
    rw [State.endTest, if_pos ⟨hopen, hbudget, hdone, hspent⟩, State.paceDrop_eq, State.post_stream,
      State.stream_modStream_self]
    rfl

end Budgets

/-! ## EXTEND (R100) -/

section Extend

variable {s : State} {i : StreamId} {target : Byte} {frames : BitVec 24} {st : Stream} {n : Nat}

/-- R100: the row EXTEND, where the port is receiving its frame, completes the frame. -/
theorem exec_extend (h : Receiving s (.extend target frames)) :
    exec (.extend target frames) s =
      .next (s.completeFrame (frameOf (.extend target frames)) (State.extendCommand target frames)) :=
  congrArg _ (State.frameRow_of_receiving h)

/-- R100: a target that names no stream answers RANGE. -/
theorem exec_extend_no_target (h : Receiving s (.extend target frames)) (ht : 16 ≤ target.toNat) :
    exec (.extend target frames) s = .next (answered s (.extend target frames) 0x03#8 []) :=
  exec_of_refused (code := .range) (exec_extend h) fun f => by simp [State.extendCommand, streamTarget_of_ge ht]

/-- R100: a refused EXTEND answers its refusal and changes nothing. -/
theorem exec_extend_refused {code : ResultCode} (h : Receiving s (.extend target frames)) (ht : target.toNat = i.val)
    (hcode : (s.stream i).extendRefusal frames.toNat = some code) :
    exec (.extend target frames) s = .next (answered s (.extend target frames) code.byte []) :=
  exec_of_refused (exec_extend h) fun f => by simp [State.extendCommand, streamTarget_of_eq ht, hcode]

/-- R100: an EXTEND that no check refuses stores the number. -/
theorem exec_extend_accepted (h : Receiving s (.extend target frames)) (ht : target.toNat = i.val)
    (hcode : (s.stream i).extendRefusal frames.toNat = none) :
    exec (.extend target frames) s =
      .next { answered s (.extend target frames) 0x01#8 [] with
        streams := s.streams.set i { s.stream i with extension := some frames.toNat } } :=
  exec_of_command (op := (State.modStream · i fun st => { st with extension := some frames.toNat })) (code := .ok)
    (exec_extend h) (fun f => by simp [State.extendCommand, streamTarget_of_eq ht, hcode]) fun _ _ => rfl

/-- R100: a stream that is not OPEN, or is endless, cannot be extended. -/
theorem Stream.extendRefusal_state (h : st.state ≠ .opened ∨ st.desc.budget = 0) : st.extendRefusal n = some .state :=
  if_pos h

/-- R100: on an OPEN stream with a budget the other checks are made. -/
theorem Stream.extendRefusal_of_opened (hopen : st.state = .opened) (hbudget : st.desc.budget ≠ 0) :
    st.extendRefusal n =
      if st.producer.phase = .done then some .late
      else if st.extension.isSome then some .full
      else if n = 0 ∨ Config.maxBudget < n ∨ 4294967295 < st.budgetNow + n then some .range
      else none :=
  if_neg (not_or.mpr ⟨not_not.mpr hopen, hbudget⟩)

/-- R100: a number of 24 bits is not above the largest budget. -/
theorem not_maxBudget_lt (frames : BitVec 24) : ¬ Config.maxBudget < frames.toNat := by
  have hmax : Config.maxBudget = 2 ^ 24 - 1 := rfl
  have := frames.isLt
  omega

/-- Settles O18: the refusals are the checks of `Stream.extendRefusal`, in their order. -/
theorem extendFollowsItsChecks : Obligations.ExtendFollowsItsChecks := by
  refine fun s i target frames h => ⟨exec_extend_no_target h, fun ht => ⟨fun hstate => ?state, fun hopen hbudget =>
    ⟨fun hdone => ?late, fun hdone hpending => ?full, fun hdone hnone hrange => ?range,
      fun hdone hnone hzero hfits => ?stored⟩⟩⟩
  case state => exact exec_extend_refused h ht (Stream.extendRefusal_state hstate)
  case late =>
    refine exec_extend_refused (code := .late) h ht ?_
    rw [Stream.extendRefusal_of_opened hopen hbudget, if_pos hdone]
  case full =>
    refine exec_extend_refused (code := .full) h ht ?_
    rw [Stream.extendRefusal_of_opened hopen hbudget, if_neg hdone, if_pos (Option.isSome_iff_ne_none.mpr hpending)]
  case range =>
    refine exec_extend_refused (code := .range) h ht ?_
    have hnumber : frames.toNat = 0 ∨ 4294967295 < (s.stream i).budgetNow + frames.toNat :=
      hrange.imp_left (congrArg BitVec.toNat)
    rw [Stream.extendRefusal_of_opened hopen hbudget, if_neg hdone, if_neg (by simp [hnone]),
      if_pos (hnumber.imp_right .inr)]
  case stored =>
    refine exec_extend_accepted h ht ?_
    have hnumber : frames.toNat ≠ 0 := fun hn => hzero (BitVec.eq_of_toNat_eq hn)
    rw [Stream.extendRefusal_of_opened hopen hbudget, if_neg hdone, if_neg (by simp [hnone]),
      if_neg (not_or.mpr ⟨hnumber, not_or.mpr ⟨not_maxBudget_lt frames, Nat.not_lt.mpr hfits⟩⟩)]

end Extend

end Sys2Proof.Machine

namespace Sys2Proof.Machine

open Sys2Proof Sys2Proof.Safety

/-! ## The drain test (R36, R108) -/

section Drain

variable {s : State} {i : StreamId} {t : Transaction}

/-- R11, R133: a stream that becomes CLOSED takes the record of R11, and its lines are UNBOUND. -/
theorem State.becomeClosed_eq (s : State) (i : StreamId) :
    s.becomeClosed i = { s with streams := s.streams.set i (closedByRule (s.stream i)), lines := linesUnbound s i } := rfl

/-- R108: the drain test passes in a DRAINING stream with nothing in the ring. -/
theorem State.drainTest_eq_completeDrain (hdraining : (s.stream i).state = .draining)
    (hcounts : (s.stream i).committed = (s.stream i).consumed) (hflight : (s.stream i).producer.inFlight = []) :
    s.drainTest i = s.completeDrain i :=
  if_pos ((Stream.drained_iff _).mpr ⟨hdraining, hcounts, hflight⟩)

/-- R108: otherwise the drain test does nothing. -/
theorem State.drainTest_of_not_drained
    (h : (s.stream i).state ≠ .draining ∨ (s.stream i).committed ≠ (s.stream i).consumed
      ∨ (s.stream i).producer.inFlight ≠ []) : s.drainTest i = s := by
  refine if_neg fun hdrained => ?_
  obtain ⟨hdraining, hcounts, hflight⟩ := (Stream.drained_iff _).mp hdrained
  rcases h with h | h | h
  · exact h hdraining
  · exact h hcounts
  · exact h hflight

/-- R27, R108: with no consumer read of the session in progress there is none to answer. -/
theorem State.fillHeldRead_of_none (h : s.consumerTxn i = none) : s.fillHeldRead i = s := by
  simp only [State.fillHeldRead, h]

/-- R27, R108: a held or deferred read, and the rest of it, is answered with fill_word; any other goes on. -/
theorem State.fillHeldRead_of_some (h : s.consumerTxn i = some t) :
    s.fillHeldRead i =
      { s with
        ports :=
          if t.hold ≠ none ∨ t.deferred = true then
            s.ports.set (s.stream i).desc.consumerPort
              { s.port (s.stream i).desc.consumerPort with txn := some (t.fillRest (s.stream i).desc.fillWord) }
          else s.ports } := by
  obtain ⟨htxn, -⟩ := Option.filter_eq_some_iff.mp h
  have hwaits : (t.hold.isSome || t.deferred) = true ↔ t.hold ≠ none ∨ t.deferred = true := by
    rw [Bool.or_eq_true, Option.isSome_iff_ne_none]
  by_cases hw : t.hold ≠ none ∨ t.deferred = true
  · simp only [State.fillHeldRead, h, if_pos (hwaits.mpr hw), if_pos hw, State.modTxn, State.modPort, htxn]
    rfl
  · simp only [State.fillHeldRead, h, if_neg (mt hwaits.mp hw), if_neg hw]

/-- R36, R108: the answer of a read's newest beat, alone of those owed. -/
theorem Transaction.answer_newest {owed : List ResponseSlot} {k : Nat} (r : Response)
    (howed : t.responses = owed ++ [{ beat := k, mark := none, value := none }]) (hbefore : ∀ x ∈ owed, x.beat < k) :
    t.answer k r = { t with responses := owed ++ [{ beat := k, mark := none, value := some r }] } := by
  have hsame : (owed.map fun x => if x.beat = k then { x with value := some r } else x) = owed :=
    (List.map_congr_left fun x hx => if_neg (hbefore x hx).ne).trans (List.map_id _)
  simp [Transaction.answer, howed, hsame]

/-- R36, R108: at drain completion the newest beat of a read and all later ones are answered. -/
theorem Transaction.fillRest_eq {owed : List ResponseSlot} (hform : TransactionInForm t)
    (howed : t.responses = owed ++ [{ beat := t.position - 1, mark := none, value := none }])
    (hbefore : ∀ x ∈ owed, x.beat < t.position - 1) (word : Word) :
    t.fillRest word =
      { t with
        position := t.beats, hold := none, deferred := false
        responses := owed ++ (List.range' (t.position - 1) (t.beats - t.position + 1)).map fun k =>
          { beat := k, mark := none, value := some { data := word, status := .okay } } } := by
  obtain ⟨-, -, hcount, -, -⟩ := hform
  have htaken : t.position - 1 + 1 = t.position := by
    rw [howed, List.length_append, List.length_singleton] at hcount
    omega
  rw [Transaction.fillRest, Transaction.answer_newest _ howed hbefore, List.range'_succ, htaken]
  simp [Transaction.answerRest, okayResponse]

/-- Settles O16: by the drain test's condition, and what each step of the completion changes. -/
theorem drainTestClosesAnEmptyDrainingStream : Obligations.DrainTestClosesAnEmptyDrainingStream := by
  refine ⟨fun s i => ⟨State.drainTest_of_not_drained, fun hdraining hcounts hflight => ?closes⟩,
    fun t owed word hform _ howed hbefore => Transaction.fillRest_eq hform howed hbefore word⟩
  case closes =>
    rw [State.drainTest_eq_completeDrain hdraining hcounts hflight, State.completeDrain]
    cases hread : s.consumerTxn i with
    | none =>
      rw [State.fillHeldRead_of_none hread, State.becomeClosed_eq]
      rfl
    | some t =>
      rw [State.fillHeldRead_of_some hread, State.becomeClosed_eq]
      rfl

end Drain

end Sys2Proof.Machine

namespace Sys2Proof.Machine

open Sys2Proof Sys2Proof.Safety

/-! ## CLOSE (R105, R109) -/

section Close

variable {s : State} {i : StreamId} {p : PortId} {target : Byte}

/-- R105: the row CLOSE DRAIN, where the port is receiving its frame, completes the frame. -/
theorem exec_closeDrain (h : Receiving s (.closeDrain target)) :
    exec (.closeDrain target) s =
      .next (s.completeFrame (frameOf (.closeDrain target)) (State.closeDrainCommand target)) :=
  congrArg _ (State.frameRow_of_receiving h)

/-- R105: the row CLOSE ABORT, where the port is receiving its frame, completes the frame. -/
theorem exec_closeAbort (h : Receiving s (.closeAbort target)) :
    exec (.closeAbort target) s =
      .next (s.completeFrame (frameOf (.closeAbort target)) (State.closeAbortCommand target)) :=
  congrArg _ (State.frameRow_of_receiving h)

/-- R105: a mode of CLOSE other than 0 and 1 names no mode. -/
theorem decodeFrame_close_unassigned {mode : Byte} (h : 2 ≤ mode.toNat) (target : Byte) :
    decodeFrame 0x11#8 target [mode] = none := by
  have hdrain : fieldAt [mode] 0 1 ≠ 0 := by rw [fieldAt_cons_zero]; omega
  have habort : fieldAt [mode] 0 1 ≠ 1 := by rw [fieldAt_cons_zero]; omega
  simp [decodeFrame, argumentBytes, hdrain, habort]

/-- Settles O14: the refusals by the command's checks; a third mode's frame decodes to no command; an ENDED stream becomes
CLOSED and nothing is returned upstream. -/
theorem closeIsRefusedOrEndsAnEndedStream : Obligations.CloseIsRefusedOrEndsAnEndedStream := by
  refine ⟨fun s target i => ⟨fun h => ⟨fun ht => ?drainRange, fun ht hstate => ?drainState⟩,
    fun h => ⟨fun ht => ?abortRange, fun ht hstate => ?abortState⟩⟩,
    fun s target mode mosi hpor hcs hphase hframe hcount hmode hcode => ?unassigned,
    fun s i target ht hended => ⟨fun h => ?drainEnded, fun h => ?abortEnded⟩⟩
  case drainRange =>
    exact exec_of_refused (code := .range) (exec_closeDrain h) fun f => by
      simp [State.closeDrainCommand, streamTarget_of_ge ht]
  case drainState =>
    refine exec_of_refused (code := .state) (exec_closeDrain h) fun f => ?_
    rcases hstate with hstate | hstate <;> simp [State.closeDrainCommand, streamTarget_of_eq ht, hstate]
  case abortRange =>
    exact exec_of_refused (code := .range) (exec_closeAbort h) fun f => by
      simp [State.closeAbortCommand, streamTarget_of_ge ht]
  case abortState =>
    exact exec_of_refused (code := .state) (exec_closeAbort h) fun f => by
      simp [State.closeAbortCommand, streamTarget_of_eq ht, hstate]
  case unassigned =>
    have hcomplete : frameComplete (s.spi.frame ++ [mode]) = true := by rw [hframe]; rfl
    rw [exec_sckEdge_of_lastBit hpor hcs (by simp [hphase]) hcount, ← hmode,
      State.receiveByte_of_complete hphase hcomplete, hframe]
    exact congrArg _ (State.completeFrame_of_undecoded (decodeFrame_close_unassigned hcode target))
  case drainEnded =>
    exact exec_of_command (op := (State.becomeClosed · i)) (code := .ok) (exec_closeDrain h)
      (fun f => by simp [State.closeDrainCommand, streamTarget_of_eq ht, hended]) fun _ _ => rfl
  case abortEnded =>
    exact exec_of_command (op := (State.becomeClosed · i)) (code := .ok) (exec_closeAbort h)
      (fun f => by simp [State.closeAbortCommand, streamTarget_of_eq ht, hended]) fun _ _ => rfl

end Close

/-! ## CLOSE DRAIN (R67, R106) -/

section CloseDrain

variable {s : State} {i : StreamId} {p : PortId} {target : Byte} {st : Stream} {port : Port} {lines : Vector Line 8}
  {queue : NoticeQueue}

/-- R106, R157: the beginning of the drain does not read the management port. -/
theorem State.modSpi_beginDrain (s : State) (f : Management → Management) (i : StreamId) :
    (s.modSpi f).beginDrain i = (s.beginDrain i).modSpi f := by
  have hrelease (u : State) : (u.modSpi f).releaseByDrain i = (u.releaseByDrain i).modSpi f :=
    State.modSpi_ite f (fun _ => by simp [State.setProducerPhase, State.endHold]) fun _ => rfl
  simp [State.beginDrain, hrelease]

/-- R106: CLOSE DRAIN of an OPEN stream begins the drain. -/
theorem exec_closeDrain_of_opened (ht : target.toNat = i.val) (h : Receiving s (.closeDrain target))
    (hopen : (s.stream i).state = .opened) :
    exec (.closeDrain target) s = .next ((answered s (.closeDrain target) 0x01#8 []).beginDrain i) :=
  exec_of_command (op := (State.beginDrain · i)) (code := .ok) (exec_closeDrain h)
    (fun f => by simp [State.closeDrainCommand, streamTarget_of_eq ht, hopen]) fun t f => t.modSpi_beginDrain f i

/-- R129, R132: a drop reads of the stream's record no more than the readiness of its sides. -/
theorem linesDropped_congr {st st' : Stream} (h : ∀ l : Line, LineReady st l ↔ LineReady st' l) (s : State)
    (i : StreamId) (side : Side) : linesDropped s i side st = linesDropped s i side st' := by
  simp only [linesDropped, linesTested_congr h]

/-- R106: the record of a stream that begins to drain. -/
def Stream.drainBegun (st : Stream) : Stream := { st with state := .draining }

/-- R106: the drain begins: the state, the release of a held write, the producer's line, the drain test. -/
theorem State.beginDrain_eq_steps (s : State) (i : StreamId) :
    s.beginDrain i = State.settle (State.drainTest
      (((s.modStream i Stream.drainBegun).releaseByDrain i).paceDrop i .producer) i) := rfl

/-- R106, R132: with no write held the drain begins with the state and the producer's line alone. -/
theorem State.beginDrain_of_not_held (h : (s.stream i).producer.phase ≠ .held) :
    s.beginDrain i = State.settle (State.drainTest
      { s with
        streams := s.streams.set i (s.stream i).drainBegun
        lines := linesDropped s i .producer (s.stream i).drainBegun } i) := by
  have hnone : (s.modStream i Stream.drainBegun).releaseByDrain i = s.modStream i Stream.drainBegun :=
    if_neg (by rwa [State.stream_modStream_self])
  rw [State.beginDrain_eq_steps, hnone, State.paceDrop_eq, State.stream_modStream_self]
  rfl

/-- R46, R102: the record of a stream after an excess frame start is absorbed and counted, in step or not. -/
def Stream.startExcess (st : Stream) : Stream :=
  { st with
    producer := { st.producer with
      position := positionAfterStart st
      treatment := if st.desc.frameBytes = 4 then .none else .absorb }
    counters := { st.counters with excess := counterUp st.counters.excess } }

/-- R102: an excess frame start is counted, the session's first one is reported, and it is absorbed. -/
theorem State.put_startExcess :
    (s.put i p st port lines queue).excessFrame i p =
      s.put i p st.startExcess { port with newestOpen := false } lines (queue.excessPosted i st) := by
  have habsorb (queue : NoticeQueue) :
      (s.put i p { st with counters := { st.counters with excess := counterUp st.counters.excess } } port lines
        queue).absorbFrame i p = s.put i p st.startExcess { port with newestOpen := false } lines queue := by
    simp only [State.absorbFrame, State.put_stream, State.put_modProducer, State.put_closeSegment, nextPosition,
      lastOffset_zero, Nat.zero_add, decide_eq_true_eq]
    rfl
  simp only [State.excessFrame, State.put_stream, State.put_count, State.put_post, NoticeQueue.excessPosted]
  split
  · exact habsorb _
  · exact habsorb _

/-- R67, R102, R129: CLOSE DRAIN releases a held write: the side flows again, both lines are tested, and the frame is in
excess. -/
theorem State.put_releaseByDrain (hheld : st.producer.phase = .held) (hp : p = st.desc.producerPort) :
    (s.put i p st port lines queue).releaseByDrain i =
      s.put i p st.producerFlowing.startExcess
        { port with txn := port.txn.map fun t => { t with hold := none }, newestOpen := false }
        (linesTested { s with lines := lines } i st.producerFlowing) (queue.excessPosted i st) := by
  simp only [State.releaseByDrain, State.put_stream, if_pos hheld, ← hp, State.setProducerPhase, State.put_modProducer,
    State.put_paceTest, State.endHold, State.put_modTxn, State.put_startExcess]
  rfl

/-- R128: in DRAINING the readiness of a line reads nothing of the producer side. -/
theorem lineReady_congr_of_draining (st st' : Stream) (hdraining : st.state = .draining)
    (hdraining' : st'.state = .draining) (hphase : st.consumer.phase = st'.consumer.phase)
    (hoccupancy : st.occupancy = st'.occupancy) (l : Line) : LineReady st l ↔ LineReady st' l := by
  simp [LineReady, hdraining, hdraining', hphase, hoccupancy]

/-- R67, R106: with a write held the drain begins with its release too. -/
theorem State.beginDrain_of_held (hheld : (s.stream i).producer.phase = .held)
    (hp : p = (s.stream i).desc.producerPort) :
    s.beginDrain i = State.settle (State.drainTest
      (s.put i p (s.stream i).drainBegun.producerFlowing.startExcess
        { s.port p with txn := (s.port p).txn.map fun t => { t with hold := none }, newestOpen := false }
        (linesDropped { s with lines := linesTested s i (s.stream i).drainBegun } i .producer (s.stream i).drainBegun)
        (s.queue.excessPosted i (s.stream i))) i) := by
  have hdrain : s.modStream i Stream.drainBegun =
      s.put i p (s.stream i).drainBegun (s.port p) s.lines s.queue := by
    rw [← State.put_modStream, State.put_self]
  have hflowing :=
    lineReady_congr_of_draining (s.stream i).drainBegun.producerFlowing (s.stream i).drainBegun rfl rfl rfl rfl
  have hexcess :=
    lineReady_congr_of_draining (s.stream i).drainBegun.producerFlowing.startExcess (s.stream i).drainBegun rfl rfl rfl
      rfl
  rw [State.beginDrain_eq_steps, hdrain, State.put_releaseByDrain (st := (s.stream i).drainBegun) hheld hp,
    State.put_paceDrop, linesTested_congr hflowing, linesDropped_congr hexcess]
  rfl

/-- Settles O15: the drain begins, with the release of the held write first where there is one. -/
theorem closeDrainBeginsTheDrain : Obligations.CloseDrainBeginsTheDrain := by
  refine ⟨fun s i target ht h hopen hphase => ?free, fun s i p target ht h hopen hheld hp => ?held⟩
  case free =>
    rw [exec_closeDrain_of_opened ht h hopen]
    exact congrArg _ (State.beginDrain_of_not_held hphase)
  case held =>
    rw [exec_closeDrain_of_opened ht h hopen]
    exact congrArg _ (State.beginDrain_of_held hheld hp)

end CloseDrain

end Sys2Proof.Machine

namespace Sys2Proof.Machine

open Sys2Proof Sys2Proof.Safety

/-! ## CLOSE ABORT (R37, R110, R140) -/

section CloseAbort

variable {s : State} {i : StreamId} {target : Byte} {t : Transaction} {port : Port} {onMemory : List SegmentBeat}

/-- R37: the transactions a session's abort ends, in the words of the statement. -/
theorem Port.onSession_iff (port : Port) (b : Binding) :
    port.onSession b = true
      ↔ port.txn.bind (·.cls) = some (.producer b) ∨ port.txn.bind (·.cls) = some (.consumer b) := by
  simp [Port.onSession]

/-- R134: a segment of a path is neither plain nor PASS. -/
theorem SegmentKind.onPath_eq (k : SegmentKind) : k.onPath = !(k == .plain || k == .pass) := by cases k <;> rfl

/-- R11, R37, R110, R133, R140: what CLOSE ABORT of an OPEN or DRAINING stream changes before what is due is returned. -/
theorem State.abort_eq_settle (s : State) (i : StreamId) :
    s.abort i = State.settle
      { s with
        streams := s.streams.set i (closedByRule (s.stream i))
        lines := linesUnbound s i
        queue := s.queue.post .aborted (streamSubject i) .none (s.stream i).consumed 0#32
        memory := s.memory.map fun g =>
          { g with discarded := g.discarded
              || (!(g.segment.kind == .plain || g.segment.kind == .pass) && g.segment.binding == some (s.binding i)) }
        ports := (s.mapPorts fun p port =>
          if port.txn.bind (·.cls) = some (.producer (s.binding i))
              ∨ port.txn.bind (·.cls) = some (.consumer (s.binding i)) then
            port.endWithError (s.beatsOnMemory p)
          else port).ports } := by
  simp only [State.abort, Granted.atAbort, Port.onSession_iff, SegmentKind.onPath_eq, State.becomeClosed_eq]
  rfl

/-- R105: CLOSE ABORT of an OPEN or DRAINING stream aborts its session. -/
theorem exec_closeAbort_of_running (ht : target.toNat = i.val) (h : Receiving s (.closeAbort target))
    (hrunning : (s.stream i).state = .opened ∨ (s.stream i).state = .draining) :
    exec (.closeAbort target) s = .next ((answered s (.closeAbort target) 0x01#8 []).abort i) := by
  refine exec_of_command (op := (State.abort · i)) (code := .ok) (exec_closeAbort h) (fun f => ?_) fun t f => ?_
  · rcases hrunning with hstate | hstate <;> simp [State.closeAbortCommand, streamTarget_of_eq ht, hstate]
  · rw [State.abort_eq_settle, State.abort_eq_settle, ← State.modSpi_settle]
    rfl

/-- R37, R137: a write ended with error goes on as one that has had an error. -/
theorem Port.endWithError_of_write (ht : port.txn = some t) (hdir : t.dir = .write) :
    port.endWithError onMemory =
      { port with
        segments := [], newestOpen := false
        txn := some { t with hold := none, deferred := false, anyError := true, endedWithError := true
                             outstanding := onMemory.length } } := by
  rw [Port.endWithError_of_txn ht]
  simp only [Transaction.failed, hdir]

/-- R37: what a response owed by a read becomes where the read is ended with error. -/
theorem ResponseSlot.failed_eq (x : ResponseSlot) (onMemory : List SegmentBeat) :
    (if x.value.isNone && !(onMemory.map (·.beat)).contains x.beat then
        { x with mark := none, value := some errorResponse }
      else { x with mark := none }) =
      { x with
        mark := none
        value := if x.value ≠ none ∨ ∃ y ∈ onMemory, y.beat = x.beat then x.value
          else some { data := 0#32, status := .error } } := by
  have howed : (x.value.isNone && !(onMemory.map (·.beat)).contains x.beat) = true
      ↔ ¬ (x.value ≠ none ∨ ∃ y ∈ onMemory, y.beat = x.beat) := by
    simp
  by_cases h : x.value ≠ none ∨ ∃ y ∈ onMemory, y.beat = x.beat
  · rw [if_neg (mt howed.mp (not_not.mpr h)), if_pos h]
  · rw [if_pos (howed.mpr h), if_neg h]
    rfl

/-- R37, R38: every beat of a read ended with error has its answer, but those on the memory port. -/
theorem Port.endWithError_of_read (ht : port.txn = some t) (hdir : t.dir = .read) :
    port.endWithError onMemory =
      { port with
        segments := [], newestOpen := false
        txn := some { t with
          hold := none, deferred := false, anyError := true, endedWithError := true
          outstanding := onMemory.length, position := t.beats
          responses :=
            (t.responses.map fun x =>
              { x with
                mark := none
                value := if x.value ≠ none ∨ ∃ y ∈ onMemory, y.beat = x.beat then x.value
                  else some { data := 0#32, status := .error } })
            ++ (List.range' t.position (t.beats - t.position)).map fun k =>
                { beat := k, mark := none, value := some { data := 0#32, status := .error } } } } := by
  rw [Port.endWithError_of_txn ht]
  simp only [Transaction.failed, hdir, Transaction.errorRest, ResponseSlot.failed_eq]
  rfl

/-- Settles O17: the abort as a whole, and what it makes of each transaction it ends. -/
theorem closeAbortEndsTheSession : Obligations.CloseAbortEndsTheSession := by
  refine ⟨fun s i target ht h hrunning => ?_, fun port t onMemory ht _ =>
    ⟨Port.endWithError_of_write ht, Port.endWithError_of_read ht⟩⟩
  rw [exec_closeAbort_of_running ht h hrunning]
  exact congrArg _ (State.abort_eq_settle ..)

end CloseAbort

end Sys2Proof.Machine

namespace Sys2Proof.Machine

open Sys2Proof Sys2Proof.Safety

/-! ## SET_INTEGRITY, SET_TIMEBASE, RESET (R113, R159, R160) -/

section Configuration

variable {s : State} {target divider : Byte} {polynomial initial : Word}

/-- R113: the CRC function is in use while a stream with spans is not CLOSED. -/
theorem State.spansBusy_iff (s : State) :
    s.spansBusy = true ↔ ∃ i : StreamId, (s.stream i).state ≠ .closed ∧ (s.stream i).desc.spanLength ≠ 0 := by
  simp [State.spansBusy, Stream.hasWindow, List.any_eq_true, mem_allStreams]

/-- R113: with every stream CLOSED or without spans, the CRC function may be set. -/
theorem State.spansBusy_eq_false
    (h : ∀ i : StreamId, (s.stream i).state ≠ .closed → (s.stream i).desc.spanLength = 0) : s.spansBusy = false :=
  Bool.eq_false_iff.mpr fun hbusy =>
    have ⟨i, hopen, hspans⟩ := s.spansBusy_iff.mp hbusy
    hspans (h i hopen)

/-- R113: a polynomial with lowest bit 0 is refused. -/
theorem State.setIntegrityCommand_of_even (hfree : s.spansBusy = false) (heven : polynomial.toNat % 2 = 0) :
    State.setIntegrityCommand polynomial initial s = (s, Answer.plain .range) := by
  have hbit : polynomial.getLsbD 0 = false := (Nat.testBit_zero _).trans (decide_eq_false (by omega))
  rw [State.setIntegrityCommand, hfree, hbit]
  rfl

/-- R113: a polynomial with lowest bit 1 is stored, and the initial value with it. -/
theorem State.setIntegrityCommand_of_odd (hfree : s.spansBusy = false) (hodd : polynomial.toNat % 2 = 1) :
    State.setIntegrityCommand polynomial initial s =
      ({ s with polynomial := polynomial, initial := initial }, Answer.plain .ok) := by
  have hbit : polynomial.getLsbD 0 = true := (Nat.testBit_zero _).trans (decide_eq_true hodd)
  rw [State.setIntegrityCommand, hfree, hbit]
  rfl

/-- R113: the row SET_INTEGRITY, where the port is receiving its frame, completes the frame. -/
theorem exec_setIntegrity (h : Receiving s (.setIntegrity target polynomial initial)) :
    exec (.setIntegrity target polynomial initial) s =
      .next (s.completeFrame (frameOf (.setIntegrity target polynomial initial))
        (State.setIntegrityCommand polynomial initial)) :=
  congrArg _ (State.frameRow_of_receiving h)

/-- R159: the row SET_TIMEBASE, where the port is receiving its frame, completes the frame. -/
theorem exec_setTimebase (h : Receiving s (.setTimebase target divider)) :
    exec (.setTimebase target divider) s =
      .next (s.completeFrame (frameOf (.setTimebase target divider)) (State.setTimebaseCommand divider)) :=
  congrArg _ (State.frameRow_of_receiving h)

/-- R160: the row RESET, where the port is receiving its frame, answers OK and leaves the soft reset pending. -/
theorem exec_reset_of_receiving (h : Receiving s (.reset target)) :
    exec (.reset target) s =
      .next { s with spi := { resultPort s.spi (frameOf (.reset target)) 0x01#8 [] with resetPending := true } } :=
  congrArg _ (State.frameRow_of_receiving h)

/-- Settles O25: each command's own checks, in their order, are its only branches. -/
theorem configurationCommandsFollowTheirChecks : Obligations.ConfigurationCommandsFollowTheirChecks := by
  refine ⟨fun s target polynomial initial h => ⟨fun hbusy => ?busy, fun hfree heven => ?even, fun hfree hodd => ?odd⟩,
    fun s target divider h => ⟨fun hrange => ?refused, fun hzero hmost => ?stored⟩,
    fun s target h => exec_reset_of_receiving h⟩
  case busy =>
    have hbusy := s.spansBusy_iff.mpr hbusy
    exact exec_of_refused (code := .busy) (exec_setIntegrity h) fun _ => if_pos hbusy
  case even =>
    have hfree := State.spansBusy_eq_false hfree
    exact exec_of_refused (code := .range) (exec_setIntegrity h) fun f =>
      State.setIntegrityCommand_of_even (s := s.modSpi f) hfree heven
  case odd =>
    have hfree := State.spansBusy_eq_false hfree
    exact exec_of_command (op := fun t => { t with polynomial := polynomial, initial := initial }) (code := .ok)
      (exec_setIntegrity h) (fun f => State.setIntegrityCommand_of_odd (s := s.modSpi f) hfree hodd) fun _ _ => rfl
  case refused =>
    have hrange : divider.toNat = 0 ∨ 64 < divider.toNat := hrange.imp_left (congrArg BitVec.toNat)
    exact exec_of_refused (code := .range) (exec_setTimebase h) fun _ => if_pos hrange
  case stored =>
    have hrange : ¬ (divider.toNat = 0 ∨ 64 < divider.toNat) :=
      not_or.mpr ⟨fun hn => hzero (BitVec.eq_of_toNat_eq hn), Nat.not_lt.mpr hmost⟩
    exact exec_of_command (op := fun t => { t with timebase := { t.timebase with nextDivider := divider.toNat } })
      (code := .ok) (exec_setTimebase h) (fun _ => if_neg hrange) fun _ _ => rfl

end Configuration

end Sys2Proof.Machine

namespace Sys2Proof.Machine

open Sys2Proof Sys2Proof.Safety

/-! ## The CRC function (R112) -/

section Crc

variable (polynomial reg : Word)

/-- R112: the bit shifted out of the register is set from 2^31 on, and the shift doubles the register. -/
theorem crcBit_eq (bit : Bool) :
    crcBit polynomial reg bit =
      if decide (0x80000000 ≤ reg.toNat) = bit then BitVec.ofNat 32 (2 * reg.toNat)
      else BitVec.ofNat 32 (2 * reg.toNat) ^^^ polynomial := by
  have hmsb : reg.msb = decide (0x80000000 ≤ reg.toNat) := BitVec.msb_eq_decide reg
  have hdouble : reg <<< 1 = BitVec.ofNat 32 (2 * reg.toNat) := by
    rw [← BitVec.toNat_inj, BitVec.toNat_shiftLeft, BitVec.toNat_ofNat, Nat.shiftLeft_eq, pow_one, Nat.mul_comm]
  unfold crcBit
  rw [hmsb, hdouble]
  by_cases hbit : decide (0x80000000 ≤ reg.toNat) = bit <;> simp [hbit]

/-- R112: a byte is taken in bit by bit, the most significant first. -/
theorem crcByte_eq_foldl (b : Byte) :
    crcByte polynomial reg b =
      ((List.range 8).map fun k => decide (b.toNat / 2 ^ (7 - k) % 2 = 1)).foldl (crcBit polynomial) reg := by
  simp only [← Nat.testBit_eq_decide_div_mod_eq]
  rfl

end Crc

/-! ## The events of the span state (R115, R117, R118) -/

section SpanEvents

variable {sp : SpanState} {polynomial initial data crc : Word} {newest : Bool}

/-- R115: the CRC of a span is set aside in the newest record. -/
theorem setSpanCrc_concat (older : List ProducerRecord) (r : ProducerRecord) (crc : Word) :
    setSpanCrc (older ++ [r]) crc = older ++ [{ r with spanCrc := some crc }] := by
  simp [setSpanCrc]

/-- R115: the beat that ends a span sets the span's CRC aside and reseeds the accumulator. -/
theorem SpanState.producerBeat_of_ends {older : List ProducerRecord} {r : ProducerRecord}
    (hrecords : sp.producerRecords = older ++ [r]) :
    sp.producerBeat polynomial initial data true =
      { sp with
        producerAcc := initial
        producerRecords :=
          older ++ [{ r with spanCrc := some (crcBytes polynomial sp.producerAcc (beatBytes data)) }] } := by
  simp only [SpanState.producerBeat, hrecords, setSpanCrc_concat, if_true]

/-- R117: a commit drops the oldest record; with no CRC in it there is nothing to push. -/
theorem SpanState.commit_of_no_crc {r : ProducerRecord} {rest : List ProducerRecord}
    (hrecords : sp.producerRecords = r :: rest) (hcrc : r.spanCrc = none) :
    sp.commit = { sp with producerRecords := rest } := by
  simp only [SpanState.commit, hrecords, hcrc]

/-- R117: a commit pushes the CRC set aside in the oldest record, under the next span number. -/
theorem SpanState.commit_of_crc {r : ProducerRecord} {rest : List ProducerRecord}
    (hrecords : sp.producerRecords = r :: rest) (hcrc : r.spanCrc = some crc) :
    sp.commit =
      { sp with
        producerRecords := rest
        queue := sp.queue ++ [{ span := sp.producerSpan, crc := crc }]
        producerSpan := sp.producerSpan + 1#32 } := by
  simp only [SpanState.commit, hrecords, hcrc]

/-- R118: the first returned beat of the newest frame fixes its open checkpoint. -/
theorem SpanState.setCheckpoint_of_open (hnewest : newest = true) (hopen : sp.consumerRecord = some .unset) :
    sp.setCheckpoint newest = { sp with consumerRecord := some (.value sp.consumerAcc) } := by
  simp [SpanState.setCheckpoint, hnewest, hopen]

/-- R118: any other returned beat leaves the checkpoint as it is. -/
theorem SpanState.setCheckpoint_of_not_open (h : newest = false ∨ sp.consumerRecord ≠ some .unset) :
    sp.setCheckpoint newest = sp := by
  rcases h with h | h <;> simp [SpanState.setCheckpoint, h]

end SpanEvents

/-! ## The consume of a frame (R120, R121) -/

section SpanConsume

variable {s : State} {i : StreamId} {slot : Nat} {faulted : Bool} {sp : SpanState} {head : SpanRecord}
  {rest : List SpanRecord}

/-- R120: the unit after a completed span: the head record removed, the accumulator reseeded, the void flag cleared. -/
def SpanState.completed (sp : SpanState) (initial : Word) (rest : List SpanRecord) : SpanState :=
  { sp with queue := rest, consumerAcc := initial, spanVoid := false, consumerSpan := sp.consumerSpan + 1#32 }

/-- R120: the consume of a span's last frame takes the head record. -/
theorem SpanState.consume_of_last (hqueue : sp.queue = head :: rest) (initial : Word) (faulted : Bool) :
    sp.consume initial faulted true = sp.completed initial rest := by
  simp [SpanState.consume, SpanState.completed, hqueue]

/-- R121: a void span is counted. -/
theorem State.spanReport_of_void (h : sp.spanVoid = true ∨ faulted = true) :
    s.spanReport i sp faulted = s.count i fun c => { c with voidSpans := counterUp c.voidSpans } :=
  if_pos (Bool.or_eq_true_iff.mpr h)

/-- R120: a span that is not void is compared with the head record. -/
theorem State.spanReport_of_compared (hvoid : sp.spanVoid = false) (hfaulted : faulted = false)
    (hqueue : sp.queue = head :: rest) :
    s.spanReport i sp faulted =
      if head.crc ^^^ sp.consumerAcc = 0#32 then s
      else
        (s.count i fun c => { c with mismatches := counterUp c.mismatches }).post .mismatch (streamSubject i)
          .consumer sp.consumerSpan (head.crc ^^^ sp.consumerAcc) := by
  simp [State.spanReport, SpanState.difference, hvoid, hfaulted, hqueue]

/-- R114: a change of what the unit holds for a stream with spans. -/
theorem State.modSpan_of_span (hspan : (s.stream i).span = some sp) (f : SpanState → SpanState) :
    s.modSpan i f = { s with streams := s.streams.set i { s.stream i with span := some (f sp) } } := by
  simp only [State.modSpan, State.modStream, hspan, Option.map_some]

/-- R114, R121: a counter and what the unit holds for the stream are changed in one record. -/
theorem State.modSpan_count (hspan : (s.stream i).span = some sp) (f : SpanState → SpanState)
    (g : Counters → Counters) :
    (s.count i g).modSpan i f =
      { s with
        streams := s.streams.set i { s.stream i with counters := g (s.stream i).counters, span := some (f sp) } } := by
  rw [State.count, State.modSpan, State.modStream_modStream]
  simp only [State.modStream, hspan, Option.map_some]

/-- R120: a notice leaves what the unit holds as it is. -/
theorem State.modSpan_post (kind : NoticeKind) (subject : Byte) (side : NoticeSide) (value1 value2 : Word)
    (f : SpanState → SpanState) :
    (s.post kind subject side value1 value2).modSpan i f = (s.modSpan i f).post kind subject side value1 value2 := rfl

/-- R121: a frame that is not the last of its span only sets the void flag where it is faulted. -/
theorem State.spanConsume_of_not_last (hspan : (s.stream i).span = some sp)
    (hslot : (slot + 1) % (s.stream i).desc.spanLength ≠ 0) :
    s.spanConsume i slot faulted =
      { s with
        streams := s.streams.set i
          { s.stream i with span := some { sp with spanVoid := sp.spanVoid || faulted } } } := by
  have hlast : lastOfSpan (s.stream i).desc slot = false := beq_false_of_ne hslot
  simp only [State.spanConsume, hspan, hlast]
  exact State.modSpan_of_span hspan _

/-- R120: the last frame of a span is reported, and then the unit goes on to the next span. -/
theorem State.spanConsume_of_last (hspan : (s.stream i).span = some sp)
    (hslot : (slot + 1) % (s.stream i).desc.spanLength = 0) :
    s.spanConsume i slot faulted = (s.spanReport i sp faulted).modSpan i fun x => x.consume s.initial faulted true := by
  have hlast : lastOfSpan (s.stream i).desc slot = true := beq_of_eq hslot
  simp only [State.spanConsume, hspan, hlast, if_true]

/-- R121: a void span is counted and not compared. -/
theorem State.spanConsume_of_void (hspan : (s.stream i).span = some sp)
    (hslot : (slot + 1) % (s.stream i).desc.spanLength = 0) (hqueue : sp.queue = head :: rest)
    (hvoid : sp.spanVoid = true ∨ faulted = true) :
    s.spanConsume i slot faulted =
      { s with
        streams := s.streams.set i
          { s.stream i with
            counters := { (s.stream i).counters with voidSpans := counterUp (s.stream i).counters.voidSpans }
            span := some (sp.completed s.initial rest) } } := by
  rw [State.spanConsume_of_last hspan hslot, State.spanReport_of_void hvoid, State.modSpan_count hspan,
    SpanState.consume_of_last hqueue]

/-- R120: equal CRCs report nothing. -/
theorem State.spanConsume_of_equal (hspan : (s.stream i).span = some sp)
    (hslot : (slot + 1) % (s.stream i).desc.spanLength = 0) (hqueue : sp.queue = head :: rest)
    (hvoid : sp.spanVoid = false) (hfaulted : faulted = false) (hcrc : head.crc = sp.consumerAcc) :
    s.spanConsume i slot faulted =
      { s with streams := s.streams.set i { s.stream i with span := some (sp.completed s.initial rest) } } := by
  rw [State.spanConsume_of_last hspan hslot, State.spanReport_of_compared hvoid hfaulted hqueue,
    if_pos (BitVec.xor_eq_zero_iff.mpr hcrc), State.modSpan_of_span hspan, SpanState.consume_of_last hqueue]

/-- R120: different CRCs are counted and posted as MISMATCH. -/
theorem State.spanConsume_of_different (hspan : (s.stream i).span = some sp)
    (hslot : (slot + 1) % (s.stream i).desc.spanLength = 0) (hqueue : sp.queue = head :: rest)
    (hvoid : sp.spanVoid = false) (hfaulted : faulted = false) (hcrc : head.crc ≠ sp.consumerAcc) :
    s.spanConsume i slot faulted =
      { s with
        queue := s.queue.post .mismatch (streamSubject i) .consumer sp.consumerSpan (head.crc ^^^ sp.consumerAcc)
        streams := s.streams.set i
          { s.stream i with
            counters := { (s.stream i).counters with mismatches := counterUp (s.stream i).counters.mismatches }
            span := some (sp.completed s.initial rest) } } := by
  rw [State.spanConsume_of_last hspan hslot, State.spanReport_of_compared hvoid hfaulted hqueue,
    if_neg (mt BitVec.xor_eq_zero_iff.mp hcrc), State.modSpan_post, State.modSpan_count hspan,
    SpanState.consume_of_last hqueue]
  rfl

end SpanConsume

/-- Settles O51: by the branches of each event of the span state, and the bits of the CRC function. -/
theorem completedSpanIsComparedUnlessVoid : Obligations.CompletedSpanIsComparedUnlessVoid := by
  refine ⟨fun s i slot faulted sp head rest hspan => ⟨State.spanConsume_of_not_last hspan, fun hslot hqueue =>
      ⟨State.spanConsume_of_void hspan hslot hqueue, State.spanConsume_of_equal hspan hslot hqueue,
        State.spanConsume_of_different hspan hslot hqueue⟩⟩,
    fun sp polynomial initial data crc older r rest hcrc => ⟨rfl, ?beat, fun hrecords => ?last, fun hrecords =>
      ⟨SpanState.commit_of_no_crc hrecords, fun c => SpanState.commit_of_crc hrecords⟩⟩,
    fun sp polynomial data crc newest hcrc => ⟨fun hnewest hopen => ?first, fun hlater => ?later⟩,
    fun polynomial reg b rest bit => ⟨rfl, rfl, crcByte_eq_foldl polynomial reg b, crcBit_eq polynomial reg bit⟩⟩
  case beat =>
    rw [hcrc]
    rfl
  case last =>
    rw [hcrc]
    exact SpanState.producerBeat_of_ends hrecords
  case first =>
    have hset := SpanState.setCheckpoint_of_open hnewest hopen
    rw [SpanState.consumerBeat, hset, hcrc]
    exact ⟨rfl, rfl⟩
  case later =>
    have hset := SpanState.setCheckpoint_of_not_open hlater
    rw [SpanState.consumerBeat, hset, hcrc]
    exact ⟨rfl, rfl⟩

end Sys2Proof.Machine

namespace Sys2Proof.Machine

open Sys2Proof Sys2Proof.Safety

/-! ## The pace lines, and what their form reads of the streams (R124 to R133)

The form of the pace lines (O55) reads of a stream its state and the phases of its sides: its flow. `State.pacing` is the
flows with the line records. Most operations leave it; the Pace Unit's own change one line at a time, each into a line that
is in form where the line before was (`Line.Follows`); and a side that stops flowing is followed by its drop. -/

/-- What the form of the pace lines reads of a stream: its state and the phases of its sides. -/
structure Flow where
  state : StreamState
  producer : ProducerPhase
  consumer : ConsumerPhase

/-- R128, R132: a side whose line may be GRANTED or IN_PACKET (SideFlows). -/
def Flow.Flows (f : Flow) : Side → Prop
  | .producer => f.state = .opened ∧ f.producer = .flowing
  | .consumer => (f.state = .opened ∨ f.state = .draining) ∧ f.consumer = .flowing

/-- The flow of a stream record. -/
def Stream.flow (st : Stream) : Flow :=
  { state := st.state, producer := st.producer.phase, consumer := st.consumer.phase }

/-- The flows of the streams and the line records. -/
structure Pacing where
  flow : StreamId → Flow
  line : LineId → Line

/-- The pacing of a state. -/
def State.pacing (s : State) : Pacing := { flow := fun i => (s.stream i).flow, line := s.line }

@[simp] theorem State.pacing_flow (s : State) (i : StreamId) : s.pacing.flow i = (s.stream i).flow := rfl
@[simp] theorem State.pacing_line (s : State) (l : LineId) : s.pacing.line l = s.line l := rfl

/-- R124: a line record in form, the flow of its stream being `f` (LineInForm). -/
structure Line.Sound (f : Flow) (x : Line) : Prop where
  unbound : x.state = .unbound → x = Line.reset
  bound : x.state ≠ .unbound → f.state ≠ .closed ∧ 1 ≤ x.packet ∧ x.packet ≤ 64
  carried : x.state = .inPacket → 1 ≤ x.credit ∧ x.credit ≤ x.packet
  idle : x.state ≠ .inPacket → x.credit = 0
  flowing : x.state = .granted ∨ x.state = .inPacket → f.Flows x.side

/-- Every line record is in form, and no two lines are bound to one side of one stream (LinesInForm). -/
structure Pacing.Sound (c : Pacing) : Prop where
  line : ∀ l, (c.line l).Sound (c.flow (c.line l).stream)
  apart : ∀ l m, l ≠ m → (c.line l).state ≠ .unbound → (c.line m).state ≠ .unbound →
    (c.line l).stream ≠ (c.line m).stream ∨ (c.line l).side ≠ (c.line m).side

/-- The line `y` is bound, if it is, to the side that `x` is bound to. -/
def Line.Within (y x : Line) : Prop := y.state ≠ .unbound → x.state ≠ .unbound ∧ y.stream = x.stream ∧ y.side = x.side

/-- R124, R126: the record of a line just bound. -/
def Line.bind (i : StreamId) (sd : Side) (packet : Nat) : Line :=
  { state := .watching, stream := i, side := sd, packet := packet, credit := 0 }

section Lines

variable {s t : State} {i : StreamId} {side : Side} {f g : Flow} {x y z : Line}

/-! ### The form of the statement, read from the pacing -/

theorem State.sideFlows_iff : SideFlows s i side ↔ (s.stream i).flow.Flows side := by
  cases side <;> simp [SideFlows, Flow.Flows, Stream.flow]

theorem State.lineInForm_iff : LineInForm s x ↔ x.Sound (s.stream x.stream).flow := by
  unfold LineInForm
  rw [State.sideFlows_iff]
  exact ⟨fun ⟨hu, hb, hc, hi, hf⟩ => ⟨hu, hb, hc, hi, hf⟩, fun h => ⟨h.unbound, h.bound, h.carried, h.idle, h.flowing⟩⟩

/-- The form of the pace lines is the form of the pacing. -/
theorem State.linesInForm_iff : LinesInForm s ↔ s.pacing.Sound :=
  ⟨fun ⟨hline, hapart⟩ => ⟨fun l => State.lineInForm_iff.mp (hline l), hapart⟩,
    fun h => ⟨fun l => State.lineInForm_iff.mpr (h.line l), h.apart⟩⟩

/-! ### What keeps one line in form -/

theorem Line.within_refl (x : Line) : x.Within x := fun h => ⟨h, rfl, rfl⟩

theorem Line.Within.trans (hy : z.Within y) (hx : y.Within x) : z.Within x := fun h => by
  obtain ⟨hbound, hstream, hside⟩ := hy h
  obtain ⟨hbound, hstream', hside'⟩ := hx hbound
  exact ⟨hbound, hstream.trans hstream', hside.trans hside'⟩

/-- R124: an UNBOUND line is in form whatever its stream does. -/
theorem Line.sound_reset (f : Flow) : Line.reset.Sound f where
  unbound _ := rfl
  bound h := absurd rfl h
  carried := nofun
  idle _ := rfl
  flowing h := h.elim nofun nofun

/-- R126: a line just bound to a stream that is not CLOSED is in form. -/
theorem Line.sound_bind {packet : Nat} (hopen : f.state ≠ .closed) (hpositive : 1 ≤ packet) (hmost : packet ≤ 64) :
    (Line.bind i side packet).Sound f where
  unbound := nofun
  bound _ := ⟨hopen, hpositive, hmost⟩
  carried := nofun
  idle _ := rfl
  flowing h := h.elim nofun nofun

/-- A line in form stays so while its stream is not closed and, where the line needs it, its side goes on flowing. -/
theorem Line.Sound.later (h : x.Sound f) (hopen : f.state ≠ .closed → g.state ≠ .closed)
    (hflows : x.state = .granted ∨ x.state = .inPacket → f.Flows x.side → g.Flows x.side) : x.Sound g where
  unbound := h.unbound
  bound hb := (h.bound hb).imp_left hopen
  carried := h.carried
  idle := h.idle
  flowing hx := hflows hx (h.flowing hx)

/-- R128: a side that is ready flows. -/
theorem State.flows_of_ready {packet : Nat} (h : s.sideReady i side packet = true) : (s.stream i).flow.Flows side := by
  cases side <;> simp only [State.sideReady, Bool.and_eq_true, Bool.or_eq_true, beq_iff_eq] at h
  · exact h.1
  · exact h.1

/-- R129: the readiness test changes a line's state alone. -/
theorem State.tested_cases (s : State) (x : Line) :
    s.tested x = x
    ∨ (x.state = .watching ∧ s.sideReady x.stream x.side x.packet = true ∧ s.tested x = { x with state := .granted }) := by
  unfold State.tested
  split
  · next h =>
    obtain ⟨hwatching, hready⟩ := Bool.and_eq_true_iff.mp h
    exact .inr ⟨of_decide_eq_true hwatching, hready, rfl⟩
  · exact .inl rfl

/-- In `s` the line `y` may follow `x`: it is bound to no other side, and in form if `x` is. -/
structure State.Follows (s : State) (y x : Line) : Prop where
  within : y.Within x
  sound : x.Sound (s.stream x.stream).flow → y.Sound (s.stream y.stream).flow

theorem State.Follows.refl (s : State) (x : Line) : s.Follows x x := ⟨x.within_refl, id⟩

/-- R129: a line tested is GRANTED only where its side flows. -/
theorem State.tested_follows (s : State) (x : Line) : s.Follows (s.tested x) x := by
  rcases s.tested_cases x with h | ⟨hwatching, hready, h⟩ <;> rw [h]
  · exact .refl s x
  · have hbound : x.state ≠ .unbound := by simp [hwatching]
    exact
      { within := fun _ => ⟨hbound, rfl, rfl⟩
        sound := fun hx =>
          { unbound := nofun
            bound := fun _ => hx.bound hbound
            carried := nofun
            idle := fun _ => hx.idle (by simp [hwatching])
            flowing := fun _ => State.flows_of_ready hready } }

/-- R131, R132: a bound line that enters WATCHING needs its side no longer to flow. -/
theorem Line.Sound.watching (h : x.Sound f) (hbound : x.state ≠ .unbound) (hopen : f.state ≠ .closed → g.state ≠ .closed) :
    Line.Sound g { x with state := .watching, credit := 0 } where
  unbound := nofun
  bound _ := (h.bound hbound).imp_left hopen
  carried := nofun
  idle _ := rfl
  flowing h := h.elim nofun nofun

/-- R130: a GRANTED line begins its packet. -/
theorem State.started_follows (s : State) (h : x.state = .granted) :
    s.Follows { x with state := .inPacket, credit := x.packet } x := by
  have hbound : x.state ≠ .unbound := by simp [h]
  exact
    { within := fun _ => ⟨hbound, rfl, rfl⟩
      sound := fun hx =>
        { unbound := nofun
          bound := fun _ => hx.bound hbound
          carried := fun _ => ⟨(hx.bound hbound).2.1, le_rfl⟩
          idle := fun hne => absurd rfl hne
          flowing := fun _ => hx.flowing (.inl h) } }

/-- R131: a line IN_PACKET with more than one frame to go counts one. -/
theorem State.counted_follows (s : State) (h : x.state = .inPacket) (hcredit : ¬ x.credit ≤ 1) :
    s.Follows { x with credit := x.credit - 1 } x where
  within := fun hb => ⟨hb, rfl, rfl⟩
  sound hx :=
    { unbound := fun hu => by simp [h] at hu
      bound := hx.bound
      carried := fun _ => by
        have hle := (hx.carried h).2
        dsimp only
        omega
      idle := fun hne => absurd h hne
      flowing := hx.flowing }

/-- R131: the last frame of the packet brings the line to WATCHING, and it is tested. -/
theorem State.ended_follows (s : State) (h : x.state = .inPacket) :
    s.Follows (s.tested { x with state := .watching, credit := 0 }) x := by
  have hbound : x.state ≠ .unbound := by simp [h]
  have htested := s.tested_follows { x with state := .watching, credit := 0 }
  exact
    { within := htested.within.trans fun _ => ⟨hbound, rfl, rfl⟩
      sound := fun hx => htested.sound (hx.watching hbound id) }

/-! ### The pacing after a change of its lines or its flows -/

/-- Lines that are bound to no other sides and are in form keep the pacing in form. -/
theorem Pacing.Sound.later {c c' : Pacing} (h : c.Sound) (hwithin : ∀ l, (c'.line l).Within (c.line l))
    (hline : ∀ l, (c'.line l).Sound (c'.flow (c'.line l).stream)) : c'.Sound where
  line := hline
  apart l m hlm hl hm := by
    obtain ⟨hl, hls, hld⟩ := hwithin l hl
    obtain ⟨hm, hms, hmd⟩ := hwithin m hm
    rw [hls, hms, hld, hmd]
    exact h.apart l m hlm hl hm

/-- Flows that close no stream and stop no side keep the pacing in form. -/
theorem Pacing.Sound.flowOn {c c' : Pacing} (h : c.Sound) (hlines : c'.line = c.line)
    (hopen : ∀ j, (c.flow j).state ≠ .closed → (c'.flow j).state ≠ .closed)
    (hflows : ∀ j side, (c.flow j).Flows side → (c'.flow j).Flows side) : c'.Sound :=
  h.later (fun l => by rw [hlines]; exact Line.within_refl _)
    fun l => by rw [hlines]; exact (h.line l).later (hopen _) fun _ => hflows _ _

/-- A change of each line into one that may follow it keeps the pacing in form. -/
theorem State.mapLines_paced {F : Line → Line} (h : s.pacing.Sound) (hF : ∀ x, s.Follows (F x) x) :
    (s.mapLines F).pacing.Sound :=
  h.later (fun l => by simpa using (hF _).within) fun l => by simpa using (hF _).sound (h.line l)

/-- R129: an event of a stream tested for its lines keeps the pacing in form. -/
theorem State.paceTest_paced (h : s.pacing.Sound) (i : StreamId) : (s.paceTest i).pacing.Sound :=
  State.mapLines_paced h fun x => by
    split
    · exact s.tested_follows x
    · exact .refl s x

/-- R130: a frame start keeps the pacing in form. -/
theorem State.paceFrameStart_paced (h : s.pacing.Sound) (i : StreamId) (side : Side) :
    (s.paceFrameStart i side).pacing.Sound :=
  State.mapLines_paced h fun x => by
    split
    · next hx => exact s.started_follows hx.2.2
    · exact .refl s x

/-- R131: a commit or a consume keeps the pacing in form. -/
theorem State.paceCount_paced (h : s.pacing.Sound) (i : StreamId) (side : Side) :
    (s.paceCount i side).pacing.Sound :=
  State.mapLines_paced h fun x => by
    split
    · split
      · exact s.tested_follows x
      · next hx =>
        split
        · split
          · exact s.ended_follows hx
          · next hcredit => exact s.counted_follows hx hcredit
        · exact .refl s x
      · exact .refl s x
      · exact .refl s x
    · exact .refl s x

theorem mem_allLines (l : LineId) : l ∈ allLines := by
  revert l
  decide

/-- R126: a line is bound to this side of the stream. -/
theorem State.any_boundTo_iff :
    (allLines.any fun m => (s.line m).boundTo i side) = true
      ↔ ∃ m : LineId, (s.line m).state ≠ .unbound ∧ (s.line m).stream = i ∧ (s.line m).side = side := by
  simp [List.any_eq_true, mem_allLines, Line.boundTo, and_assoc]

/-- R132: a line that can drop is bound to the side, and GRANTED or IN_PACKET. -/
theorem Line.droppable_iff :
    x.droppable i side = true ↔ x.stream = i ∧ x.side = side ∧ (x.state = .granted ∨ x.state = .inPacket) := by
  simp [Line.droppable, and_assoc]

theorem Line.dropped_of_not_droppable (h : x.droppable i side ≠ true) : x.dropped i side = x := if_neg h

theorem Line.dropped_stream (x : Line) (i : StreamId) (side : Side) : (x.dropped i side).stream = x.stream := by
  unfold Line.dropped
  split <;> rfl

/-- R132: a drop binds no line. -/
theorem Line.dropped_within (x : Line) (i : StreamId) (side : Side) : (x.dropped i side).Within x := by
  unfold Line.dropped
  split
  · next hx =>
    obtain ⟨-, -, hstate⟩ := Line.droppable_iff.mp hx
    exact fun _ => ⟨by rcases hstate with hstate | hstate <;> simp [hstate], rfl, rfl⟩
  · exact x.within_refl

/-- R132: a line in form, dropped, is in form where no other side has stopped flowing. -/
theorem Line.Sound.dropped (h : x.Sound f) (hopen : f.state ≠ .closed → g.state ≠ .closed)
    (hflows : (x.stream ≠ i ∨ x.side ≠ side) → f.Flows x.side → g.Flows x.side) : (x.dropped i side).Sound g := by
  unfold Line.dropped
  split
  · next hx =>
    obtain ⟨-, -, hstate⟩ := Line.droppable_iff.mp hx
    exact h.watching (by rcases hstate with hstate | hstate <;> simp [hstate]) hopen
  · next hx =>
    refine h.later hopen fun hstate => hflows ?_
    by_contra hside
    obtain ⟨hstream, hside⟩ := not_or.mp hside
    exact hx (Line.droppable_iff.mpr ⟨not_not.mp hstream, not_not.mp hside, hstate⟩)

/-- R132: what a drop makes of a line: dropped if it can drop, and then, perhaps, tested. -/
theorem State.paceDrop_line (s : State) (i : StreamId) (side : Side) (l : LineId) :
    (s.paceDrop i side).line l = s.tested ((s.line l).dropped i side)
    ∨ (s.paceDrop i side).line l = (s.line l).dropped i side := by
  simp only [State.paceDrop, State.line_mapLines]
  split
  · exact .inl rfl
  · next hnot =>
    refine .inr (Line.dropped_of_not_droppable fun hdrop => hnot ?_).symm
    have hany : (allLines.any fun m => (s.line m).droppable i side) = true :=
      List.any_eq_true.mpr ⟨l, mem_allLines l, hdrop⟩
    simp [hany, (Line.droppable_iff.mp hdrop).1]

/-- R132: where one side alone has stopped flowing, its drop brings the pacing back into form. -/
theorem State.paceDrop_paced (h : s.pacing.Sound) (hlines : t.line = s.line)
    (hopen : ∀ j, (s.stream j).state ≠ .closed → (t.stream j).state ≠ .closed)
    (hflows : ∀ j side', j ≠ i ∨ side' ≠ side → (s.stream j).flow.Flows side' → (t.stream j).flow.Flows side') :
    (t.paceDrop i side).pacing.Sound := by
  have hline (l : LineId) : t.Follows ((t.paceDrop i side).line l) ((t.line l).dropped i side) := by
    rcases t.paceDrop_line i side l with hl | hl <;> rw [hl]
    · exact t.tested_follows _
    · exact .refl t _
  refine h.later (fun l => ?_) fun l => (hline l).sound ?_
  · have hwithin := (hline l).within.trans (Line.dropped_within _ i side)
    rwa [hlines] at hwithin
  · rw [Line.dropped_stream, hlines]
    exact (h.line l).dropped (hopen _) (hflows _ _)

/-- R132: a drop keeps the pacing in form. -/
theorem State.paceDrop_paced_self (h : s.pacing.Sound) (i : StreamId) (side : Side) :
    (s.paceDrop i side).pacing.Sound :=
  State.paceDrop_paced h rfl (fun _ => id) fun _ _ _ => id

/-- A line that is bound to no other line's side, and is in form, keeps the pacing in form. -/
theorem State.setLine_paced {l : LineId} (h : s.pacing.Sound) (hx : x.Sound (s.stream x.stream).flow)
    (hfree : x.state ≠ .unbound → ∀ m, m ≠ l → (s.line m).state ≠ .unbound →
      (s.line m).stream ≠ x.stream ∨ (s.line m).side ≠ x.side) : (s.setLine l x).pacing.Sound where
  line m := by
    by_cases hm : m = l
    · subst hm; simpa using hx
    · simpa [hm] using h.line m
  apart m n hmn hm hn := by
    by_cases hml : m = l
    · subst hml
      simp only [State.pacing_line, State.line_setLine_self, State.line_setLine_ne s (Ne.symm hmn)] at hm hn ⊢
      exact (hfree hm n (Ne.symm hmn) hn).imp Ne.symm Ne.symm
    · by_cases hnl : n = l
      · subst hnl
        simp only [State.pacing_line, State.line_setLine_self, State.line_setLine_ne s hmn] at hm hn ⊢
        exact hfree hn m hmn hm
      · simp only [State.pacing_line, State.line_setLine_ne s hml, State.line_setLine_ne s hnl] at hm hn ⊢
        exact h.apart m n hmn hm hn

/-- R20, R124: with every line UNBOUND the pacing is in form. -/
theorem Pacing.sound_of_reset {c : Pacing} (h : ∀ l, c.line l = Line.reset) : c.Sound where
  line l := h l ▸ Line.sound_reset _
  apart l _ _ hl := absurd (by rw [h l]; rfl) hl

end Lines

end Sys2Proof.Machine

namespace Sys2Proof.Machine

open Sys2Proof Sys2Proof.Safety

/-! ## Operations that leave the pacing -/

section Pacing

variable (s : State) (i : StreamId) (p : PortId)

/-- The pacing reads the streams and the lines alone. -/
theorem State.pacing_congr {s t : State} (hs : s.streams = t.streams) (hl : s.lines = t.lines) :
    s.pacing = t.pacing := by
  have hline : s.line = t.line := funext fun l => congrArg (·[l]) hl
  simp only [State.pacing, State.stream, hs, hline]

/-- A change of a stream record outside its flow leaves the pacing. -/
theorem State.modStream_pacing {s : State} {i : StreamId} {f : Stream → Stream}
    (h : (f (s.stream i)).flow = (s.stream i).flow) : (s.modStream i f).pacing = s.pacing := by
  have hflow : (s.modStream i f).pacing.flow = s.pacing.flow := funext fun j => by
    by_cases hj : j = i
    · subst hj; simpa using h
    · simp [hj]
  exact congrArg (Pacing.mk · s.line) hflow

/-- A change of the producer side that leaves its phase leaves the pacing. -/
theorem State.modProducer_pacing {s : State} {i : StreamId} {f : ProducerSide → ProducerSide}
    (h : (f (s.stream i).producer).phase = (s.stream i).producer.phase) : (s.modProducer i f).pacing = s.pacing :=
  State.modStream_pacing (congrArg (Flow.mk _ · _) h)

/-- A change of the consumer side that leaves its phase leaves the pacing. -/
theorem State.modConsumer_pacing {s : State} {i : StreamId} {f : ConsumerSide → ConsumerSide}
    (h : (f (s.stream i).consumer).phase = (s.stream i).consumer.phase) : (s.modConsumer i f).pacing = s.pacing :=
  State.modStream_pacing (congrArg (Flow.mk _ _) h)

/-! ### Notices, ports and spans -/

@[simp] theorem State.post_pacing (kind : NoticeKind) (subject : Byte) (side : NoticeSide) (value1 value2 : Word) :
    (s.post kind subject side value1 value2).pacing = s.pacing := rfl
@[simp] theorem State.modPort_pacing (f : Port → Port) : (s.modPort p f).pacing = s.pacing := rfl
@[simp] theorem State.modTxn_pacing (f : Transaction → Transaction) : (s.modTxn p f).pacing = s.pacing := rfl
@[simp] theorem State.closeSegment_pacing : (s.closeSegment p).pacing = s.pacing := rfl
@[simp] theorem State.answerBeat_pacing (k : Nat) (r : Response) : (s.answerBeat p k r).pacing = s.pacing := rfl
@[simp] theorem State.endHold_pacing : (s.endHold p).pacing = s.pacing := rfl

@[simp] theorem State.arbitrate_pacing : s.arbitrate.pacing = s.pacing := State.pacing_congr (by simp) (by simp)
@[simp] theorem State.freeMemory_pacing : s.freeMemory.pacing = s.pacing := State.arbitrate_pacing _
@[simp] theorem State.forward_pacing (kind : SegmentKind) (dir : Dir) (addr : Word) (b : Binding) (beat : SegmentBeat) :
    (s.forward p kind dir addr b beat).pacing = s.pacing := State.pacing_congr (by simp) (by simp)
@[simp] theorem State.forwardWhole_pacing (g : Segment) : (s.forwardWhole p g).pacing = s.pacing :=
  State.arbitrate_pacing _

@[simp] theorem State.count_pacing (f : Counters → Counters) : (s.count i f).pacing = s.pacing :=
  State.modStream_pacing rfl
@[simp] theorem State.modSpan_pacing (f : SpanState → SpanState) : (s.modSpan i f).pacing = s.pacing :=
  State.modStream_pacing rfl
@[simp] theorem State.memfault_pacing (side : NoticeSide) (frame : Word) :
    (s.memfault i side frame).pacing = s.pacing := State.count_pacing ..

@[simp] theorem State.spanReport_pacing (sp : SpanState) (faulted : Bool) :
    (s.spanReport i sp faulted).pacing = s.pacing := by
  unfold State.spanReport
  split
  · exact State.count_pacing ..
  · split
    · rfl
    · split
      · rfl
      · exact (State.post_pacing ..).trans (State.count_pacing ..)

@[simp] theorem State.spanConsume_pacing (slot : Nat) (faulted : Bool) :
    (s.spanConsume i slot faulted).pacing = s.pacing := by
  unfold State.spanConsume
  split
  · rfl
  · dsimp only
    split <;> simp

/-! ### The Producer Path -/

@[simp] theorem State.forwardPlaced_pacing (k : Nat) (data : Word) (offset : Nat) :
    (s.forwardPlaced i p k data offset).pacing = s.pacing := by
  unfold State.forwardPlaced
  dsimp only
  split
  · rfl
  · rw [State.forward_pacing, State.spanProducerBeat, State.modSpan_pacing, State.modProducer_pacing rfl]

@[simp] theorem State.enterFrame_pacing : (s.enterFrame i).pacing = s.pacing :=
  (State.modSpan_pacing ..).trans (State.modProducer_pacing rfl)

@[simp] theorem State.absorbFrame_pacing : (s.absorbFrame i p).pacing = s.pacing := by
  rw [State.absorbFrame, State.closeSegment_pacing, State.modProducer_pacing rfl]

@[simp] theorem State.excessFrame_pacing : (s.excessFrame i p).pacing = s.pacing := by
  unfold State.excessFrame
  dsimp only
  split <;> simp

@[simp] theorem State.overrunFrame_pacing : (s.overrunFrame i p).pacing = s.pacing := by
  rw [State.overrunFrame, State.absorbFrame_pacing, State.count_pacing, State.modProducer_pacing rfl]

@[simp] theorem State.abandonProducer_pacing (keep : Nat) : (s.abandonProducer i p keep).pacing = s.pacing :=
  (State.modSpan_pacing ..).trans (State.modProducer_pacing rfl)

@[simp] theorem State.endProducerFrame_pacing : (s.endProducerFrame i p).pacing = s.pacing := by
  unfold State.endProducerFrame
  dsimp only
  split
  · exact State.abandonProducer_pacing ..
  · rfl

@[simp] theorem State.producerLoss_pacing (reason : Word) : (s.producerLoss i reason).pacing = s.pacing :=
  State.count_pacing ..

@[simp] theorem State.losePlacement_pacing (reason : Word) : (s.losePlacement i p reason).pacing = s.pacing := by
  rw [State.losePlacement, State.producerLoss_pacing, State.modProducer_pacing rfl, State.closeSegment_pacing,
    State.endProducerFrame_pacing]

@[simp] theorem State.continueProducer_pacing (k : Nat) (data : Word) (offset : Nat) :
    (s.continueProducer i p k data offset).pacing = s.pacing := by
  unfold State.continueProducer
  dsimp only
  split
  · exact State.forwardPlaced_pacing ..
  · rw [State.closeSegment_pacing, State.modProducer_pacing rfl]

@[simp] theorem State.loseByError_pacing (filling : Bool) : (s.loseByError i filling).pacing = s.pacing := by
  unfold State.loseByError
  split
  · exact State.modProducer_pacing rfl
  · rfl

/-! ### The Consumer Path -/

@[simp] theorem State.forwardReal_pacing (k offset : Nat) : (s.forwardReal i p k offset).pacing = s.pacing := by
  unfold State.forwardReal
  dsimp only
  split
  · rfl
  · rw [State.forward_pacing, State.modTxn_pacing, State.modConsumer_pacing rfl]

@[simp] theorem State.fillBeat_pacing (k offset : Nat) : (s.fillBeat i p k offset).pacing = s.pacing := by
  have hside (f : ConsumerSide → Nat) (g : ConsumerSide → Verdict) :
      (s.modConsumer i fun cs => { cs with position := f cs, verdict := g cs }).pacing = s.pacing :=
    State.modConsumer_pacing rfl
  unfold State.fillBeat
  dsimp only
  split
  · simp [hside]
  · simp [hside]
  · split <;> simp [hside]

@[simp] theorem State.fillFrame_pacing (k : Nat) : (s.fillFrame i p k).pacing = s.pacing := by
  rw [State.fillFrame, State.fillBeat_pacing, State.count_pacing, State.modConsumer_pacing rfl]

@[simp] theorem State.endConsumerFrame_pacing : (s.endConsumerFrame i).pacing = s.pacing := by
  unfold State.endConsumerFrame
  split
  · exact (State.modSpan_pacing ..).trans (State.modConsumer_pacing rfl)
  · rfl

@[simp] theorem State.consumerLoss_pacing (reason : Word) : (s.consumerLoss i reason).pacing = s.pacing :=
  State.count_pacing ..

@[simp] theorem State.misplacedRead_pacing (k : Nat) : (s.misplacedRead i p k).pacing = s.pacing := by
  rw [State.misplacedRead, State.consumerLoss_pacing, State.modConsumer_pacing rfl, State.answerBeat_pacing,
    State.endConsumerFrame_pacing]

@[simp] theorem State.continueConsumer_pacing (k offset : Nat) :
    (s.continueConsumer i p k offset).pacing = s.pacing := by
  unfold State.continueConsumer
  split <;> simp

@[simp] theorem State.fillHeldRead_pacing : (s.fillHeldRead i).pacing = s.pacing := by
  unfold State.fillHeldRead
  split
  · split <;> rfl
  · rfl

@[simp] theorem State.entryFaulted_pacing (m : RealMark) : (s.entryFaulted i m).pacing = s.pacing := by
  unfold State.entryFaulted
  split
  · exact (State.memfault_pacing ..).trans (State.modConsumer_pacing rfl)
  · rfl

/-! ### Requests, classes and memory results -/

@[simp] theorem State.assignClass_pacing (cls : TransactionClass) (t : Transaction) :
    (s.assignClass p cls t).pacing = s.pacing := by
  have hnotice (u : State) : (u.classificationNotice p t.addr cls).pacing = u.pacing := by cases cls <;> rfl
  unfold State.assignClass
  dsimp only
  split <;> simp [hnotice]

@[simp] theorem State.acceptRequest_pacing (dir : Dir) (addr : Word) (beats : Nat) :
    (s.acceptRequest p dir addr beats).pacing = s.pacing := by
  unfold State.acceptRequest
  dsimp only
  split <;> cases dir <;> simp

@[simp] theorem State.readResult_pacing (g : Granted) (x : SegmentBeat) (data : Word) (r : BusStatus) :
    (s.readResult g x data r).pacing = s.pacing := by
  have hhold (b : Binding) : (s.holdResult g.owner x b data r).pacing = s.pacing := by
    unfold State.holdResult
    split
    · rfl
    · dsimp only
      split <;> simp
  unfold State.readResult
  dsimp only
  split
  · rfl
  · split
    · exact hhold _
    · rfl
    · rfl

@[simp] theorem State.endReadSegment_pacing (g : Granted) : (s.endReadSegment g).pacing = s.pacing := by
  unfold State.endReadSegment
  split <;> simp

@[simp] theorem State.refclk_pacing : s.refclk.pacing = s.pacing := by
  unfold State.refclk
  split_ifs <;> rfl

end Pacing

end Sys2Proof.Machine

namespace Sys2Proof.Machine

open Sys2Proof Sys2Proof.Safety

/-! ## The paths keep the pace lines in form -/

section Paths

variable {s : State} {i : StreamId} {p : PortId}

/-- A change of one stream record that closes no stream and stops no side keeps the pacing in form. -/
theorem State.modStream_paced {f : Stream → Stream} (h : s.pacing.Sound)
    (hopen : (s.stream i).state ≠ .closed → (f (s.stream i)).state ≠ .closed)
    (hflows : ∀ side, (s.stream i).flow.Flows side → (f (s.stream i)).flow.Flows side) :
    (s.modStream i f).pacing.Sound := by
  refine h.flowOn rfl (fun j => ?_) fun j side => ?_
  · show (s.stream j).state ≠ .closed → ((s.modStream i f).stream j).state ≠ .closed
    by_cases hj : j = i
    · subst hj; simpa using hopen
    · simp [hj]
  · by_cases hj : j = i
    · subst hj; simpa using hflows side
    · simp [hj]

/-- R132: a change of one stream record that stops one side alone, and its drop, keep the pacing in form. `t` has the streams
and the lines that the change leaves. -/
theorem State.modStream_paceDrop_paced {t : State} {f : Stream → Stream} {side : Side} (h : s.pacing.Sound)
    (ht : t.pacing = (s.modStream i f).pacing)
    (hopen : (s.stream i).state ≠ .closed → (f (s.stream i)).state ≠ .closed)
    (hflows : ∀ side', side' ≠ side → (s.stream i).flow.Flows side' → (f (s.stream i)).flow.Flows side') :
    (t.paceDrop i side).pacing.Sound := by
  have hline : t.line = s.line := congrArg Pacing.line ht
  have hflow (j : StreamId) : (t.stream j).flow = ((s.modStream i f).stream j).flow := congrArg (·.flow j) ht
  have hstate (j : StreamId) : (t.stream j).state = ((s.modStream i f).stream j).state := congrArg Flow.state (hflow j)
  refine State.paceDrop_paced h hline (fun j => ?_) fun j side' hside => ?_
  · rw [hstate]
    by_cases hj : j = i
    · subst hj; simpa using hopen
    · simp [hj]
  · rw [hflow]
    by_cases hj : j = i
    · subst hj; simpa using hflows side' (hside.resolve_left fun hne => hne rfl)
    · simp [hj]

/-- A producer that flows again keeps the pacing in form. -/
theorem State.setProducerPhase_flowing_paced (h : s.pacing.Sound) (i : StreamId) :
    (s.setProducerPhase i .flowing).pacing.Sound :=
  State.modStream_paced h id fun side hside => by
    cases side with
    | producer => exact ⟨hside.1, rfl⟩
    | consumer => exact hside

/-- A consumer that flows again keeps the pacing in form. -/
theorem State.setConsumerPhase_flowing_paced (h : s.pacing.Sound) (i : StreamId) :
    (s.setConsumerPhase i .flowing).pacing.Sound :=
  State.modStream_paced h id fun side hside => by
    cases side with
    | producer => exact hside
    | consumer => exact ⟨hside.1, rfl⟩

/-- R132: a producer that enters another phase, and its drop. -/
theorem State.producerStops_paced {t : State} {f : Stream → Stream} {ph : ProducerPhase} (h : s.pacing.Sound)
    (ht : t.pacing = (s.modStream i f).pacing)
    (hf : (f (s.stream i)).flow = { (s.stream i).flow with producer := ph }) :
    (t.paceDrop i .producer).pacing.Sound := by
  have hstate : (f (s.stream i)).state = (s.stream i).state := congrArg Flow.state hf
  refine State.modStream_paceDrop_paced h ht (hstate ▸ id) fun side hne hside => ?_
  cases side with
  | producer => exact absurd rfl hne
  | consumer => exact hf ▸ hside

/-- R132: a consumer that enters another phase, and its drop. -/
theorem State.consumerStops_paced {t : State} {f : Stream → Stream} {ph : ConsumerPhase} (h : s.pacing.Sound)
    (ht : t.pacing = (s.modStream i f).pacing)
    (hf : (f (s.stream i)).flow = { (s.stream i).flow with consumer := ph }) :
    (t.paceDrop i .consumer).pacing.Sound := by
  have hstate : (f (s.stream i)).state = (s.stream i).state := congrArg Flow.state hf
  refine State.modStream_paceDrop_paced h ht (hstate ▸ id) fun side hne hside => ?_
  cases side with
  | producer => exact hf ▸ hside
  | consumer => exact absurd rfl hne

/-! ### The Producer Path -/

theorem State.startPlaced_paced (h : s.pacing.Sound) (k : Nat) (data : Word) :
    (s.startPlaced i p k data).pacing.Sound := by
  rw [State.startPlaced, State.forwardPlaced_pacing]
  exact State.paceFrameStart_paced h i .producer

theorem State.placeFrame_paced (h : s.pacing.Sound) (k : Nat) (data : Word) :
    (s.placeFrame i p k data).pacing.Sound :=
  State.startPlaced_paced (by rwa [State.enterFrame_pacing]) k data

theorem State.beginOverrun_paced (h : s.pacing.Sound) : (s.beginOverrun i p).pacing.Sound := by
  rw [State.beginOverrun, State.overrunFrame_pacing]
  exact State.producerStops_paced h (State.post_pacing ..) rfl

theorem State.stallFrame_paced (h : s.pacing.Sound) (data : Word) : (s.stallFrame i p data).pacing.Sound :=
  State.producerStops_paced (s := s.beginHold p (s.stream i).desc.stallLimit data) h rfl rfl

theorem State.resumeOverrun_paced (h : s.pacing.Sound) (k : Nat) (data : Word) :
    (s.resumeOverrun i p k data).pacing.Sound :=
  State.placeFrame_paced (State.paceTest_paced (by exact State.setProducerPhase_flowing_paced h i) i) k data

/-- R65: a room event keeps the pacing in form. -/
theorem State.roomEvent_paced (h : s.pacing.Sound) (i : StreamId) : (s.roomEvent i).pacing.Sound := by
  unfold State.roomEvent
  dsimp only
  split
  · split
    · split
      · refine State.startPlaced_paced (State.paceTest_paced ?_ i) _ _
        rw [State.enterFrame_pacing, State.endHold_pacing]
        exact State.setProducerPhase_flowing_paced h i
      · exact h
    · exact h
  · exact h

/-- R43: a producer frame start keeps the pacing in form. -/
theorem State.producerFrameStart_paced (h : s.pacing.Sound) (k : Nat) (data : Word) :
    (s.producerFrameStart i p k data).pacing.Sound := by
  unfold State.producerFrameStart
  split
  · rwa [State.excessFrame_pacing]
  · exact State.placeFrame_paced h k data
  · exact State.beginOverrun_paced h
  · exact State.stallFrame_paced h data
  · exact State.resumeOverrun_paced h k data
  · rwa [State.overrunFrame_pacing]

/-! ### The Consumer Path -/

theorem State.startReal_paced (h : s.pacing.Sound) (k : Nat) : (s.startReal i p k).pacing.Sound := by
  rw [State.startReal, State.forwardReal_pacing]
  refine State.paceFrameStart_paced ?_ i .consumer
  rwa [State.spanConsumerStart, State.modSpan_pacing, State.modConsumer_pacing rfl]

/-- R86, R87: the reservation of the held slot leaves the pacing; the phase of UNDERRUN is followed by its drop. -/
theorem State.beginUnderrun_paced (h : s.pacing.Sound) : (s.beginUnderrun i).pacing.Sound := by
  refine State.consumerStops_paced h ((State.modStream_pacing ?_).trans (State.post_pacing ..)) rfl
  split <;> rfl

theorem State.waitFrame_paced (h : s.pacing.Sound) : (s.waitFrame i p).pacing.Sound :=
  State.consumerStops_paced (s := s.beginHold p (s.stream i).desc.waitLimit 0#32) h rfl rfl

theorem State.releaseHeldSlot_paced (h : s.pacing.Sound) (i : StreamId) : (s.releaseHeldSlot i).pacing.Sound := by
  have hfreed : (s.modConsumer i fun cs => { cs with heldSlot := none, holdSource := .word }).pacing.Sound := by
    rwa [State.modConsumer_pacing rfl]
  unfold State.releaseHeldSlot
  dsimp only
  split
  · exact State.paceTest_paced (State.roomEvent_paced hfreed i) i
  · exact hfreed

theorem State.resumeUnderrun_paced (h : s.pacing.Sound) (k : Nat) : (s.resumeUnderrun i p k).pacing.Sound :=
  State.startReal_paced (State.paceTest_paced
    (by exact State.setConsumerPhase_flowing_paced (State.releaseHeldSlot_paced h i) i) i) k

/-- R80: a consumer frame start keeps the pacing in form. -/
theorem State.consumerFrameStart_paced (h : s.pacing.Sound) (k : Nat) :
    (s.consumerFrameStart i p k).pacing.Sound := by
  unfold State.consumerFrameStart
  split
  · exact h
  · exact State.startReal_paced h k
  · exact h
  · rw [State.fillFrame_pacing]
    exact State.beginUnderrun_paced h
  · exact State.waitFrame_paced h
  · exact State.resumeUnderrun_paced h k
  · rwa [State.fillFrame_pacing]

theorem State.decideDeferred_paced (h : s.pacing.Sound) (i : StreamId) : (s.decideDeferred i).pacing.Sound := by
  unfold State.decideDeferred
  dsimp only
  split
  · split
    · exact State.consumerFrameStart_paced (by exact h) _
    · exact h
  · exact h

theorem State.releaseWaiting_paced (h : s.pacing.Sound) (i : StreamId) : (s.releaseWaiting i).pacing.Sound := by
  unfold State.releaseWaiting
  dsimp only
  split
  · split
    · exact State.startReal_paced
        (by exact State.paceTest_paced (State.setConsumerPhase_flowing_paced h i) i) _
    · exact h
  · exact h

/-- R77: a read beat of the Consumer Path keeps the pacing in form. -/
theorem State.consumerBeat_paced (h : s.pacing.Sound) (k offset : Nat) :
    (s.consumerBeat i p k offset).pacing.Sound := by
  unfold State.consumerBeat
  dsimp only
  split
  · exact h
  · split
    · split_ifs
      · exact State.consumerFrameStart_paced h k
      · rwa [State.continueConsumer_pacing]
      · refine State.consumerFrameStart_paced ?_ k
        rwa [State.modConsumer_pacing rfl, State.consumerLoss_pacing, State.endConsumerFrame_pacing]
      · rwa [State.misplacedRead_pacing]
    · split_ifs
      · exact State.consumerFrameStart_paced (by rwa [State.modConsumer_pacing rfl]) k
      · exact h

/-! ### Becoming CLOSED (R133) -/

/-- R133: a stream that becomes CLOSED frees its lines. -/
theorem State.becomeClosed_paced (h : s.pacing.Sound) (i : StreamId) : (s.becomeClosed i).pacing.Sound := by
  have hline (l : LineId) : (s.becomeClosed i).line l =
      if (s.line l).state ≠ .unbound ∧ (s.line l).stream = i then Line.reset else s.line l :=
    State.line_mapLines ..
  have hstream {j : StreamId} (hj : j ≠ i) : (s.becomeClosed i).stream j = s.stream j :=
    State.stream_modStream_ne s hj _
  refine h.later (fun l => ?_) fun l => ?_
  · rw [State.pacing_line, hline]
    split
    · exact fun hb => absurd rfl hb
    · exact Line.within_refl _
  · rw [State.pacing_line, hline]
    split
    · exact Line.sound_reset _
    · next hkept =>
      have hx : (s.line l).Sound (s.stream (s.line l).stream).flow := h.line l
      by_cases hb : (s.line l).state = .unbound
      · exact hx.unbound hb ▸ Line.sound_reset _
      · rw [State.pacing_flow, hstream fun hj => hkept ⟨hb, hj⟩]
        exact hx

theorem State.drainTest_paced (h : s.pacing.Sound) (i : StreamId) : (s.drainTest i).pacing.Sound := by
  unfold State.drainTest
  split
  · exact State.becomeClosed_paced (s := s.fillHeldRead i) (by rwa [State.fillHeldRead_pacing]) i
  · exact h

/-- R40: a write beat of the Producer Path keeps the pacing in form. -/
theorem State.producerBeat_paced (h : s.pacing.Sound) (k : Nat) (data : Word) (full : Bool) (offset : Nat) :
    (s.producerBeat i p k data full offset).pacing.Sound := by
  have hdrain {u : State} (hu : u.pacing.Sound) (abandoned : Bool) : (u.drainAfterAbandon i abandoned).pacing.Sound := by
    unfold State.drainAfterAbandon
    split
    · exact State.drainTest_paced hu i
    · exact hu
  unfold State.producerBeat
  dsimp only
  split
  · split_ifs
    · exact hdrain (by rwa [State.losePlacement_pacing]) _
    · exact State.producerFrameStart_paced h k data
    · rwa [State.continueProducer_pacing]
    · refine hdrain (State.producerFrameStart_paced ?_ k data) _
      rwa [State.modProducer_pacing rfl, State.producerLoss_pacing, State.endProducerFrame_pacing]
    · exact hdrain (by rwa [State.losePlacement_pacing]) _
  · split_ifs
    · exact State.producerFrameStart_paced (by rwa [State.modProducer_pacing rfl]) k data
    · exact h

/-! ### Commits and consumes -/

/-- R98: the budget test keeps the pacing in form: a producer that is DONE drops its line. -/
theorem State.budgetTest_paced (h : s.pacing.Sound) (i : StreamId) : (s.budgetTest i).pacing.Sound := by
  unfold State.budgetTest
  dsimp only
  split
  · split
    · rwa [State.post_pacing, State.modStream_pacing rfl]
    · exact State.producerStops_paced h (State.post_pacing ..) rfl
  · exact h

theorem State.commit_paced (h : s.pacing.Sound) (i : StreamId) : (s.commit i).pacing.Sound := by
  have hcounted : ((((s.modStream i Stream.commitOldest).spanCommit i).paceCount i .producer).budgetTest i).pacing.Sound :=
    State.budgetTest_paced (State.paceCount_paced
      (by rwa [State.spanCommit, State.modSpan_pacing, State.modStream_pacing rfl]) i .producer) i
  rw [State.commit, State.commitReachesConsumer]
  split
  · exact State.releaseWaiting_paced hcounted i
  · exact State.decideDeferred_paced hcounted i

/-- R103: the end test keeps the pacing in form: the producer of an ENDED stream was DONE, and the consumer drops its line. -/
theorem State.endTest_paced (h : s.pacing.Sound) (i : StreamId) : (s.endTest i).pacing.Sound := by
  unfold State.endTest
  dsimp only
  split
  · next hend =>
    obtain ⟨-, -, hdone, -⟩ := hend
    refine State.modStream_paceDrop_paced h (State.post_pacing ..) (fun _ => nofun) fun side hne hside => ?_
    cases side with
    | producer => exact absurd (hdone.symm.trans hside.2) (by decide)
    | consumer => exact absurd rfl hne
  · exact h

theorem State.afterConsume_paced (h : s.pacing.Sound) (i : StreamId) : (s.afterConsume i).pacing.Sound := by
  have hchosen : ({ s with choices := s.choices + 1 } : State).pacing.Sound := h
  unfold State.afterConsume
  dsimp only
  split_ifs
  · exact State.drainTest_paced (State.decideDeferred_paced hchosen i) i
  · exact State.drainTest_paced hchosen i
  · exact State.decideDeferred_paced h i
  · exact State.drainTest_paced h i

theorem State.consume_paced (h : s.pacing.Sound) (i : StreamId) : (s.consume i).pacing.Sound := by
  unfold State.consume
  split
  · exact h
  · refine State.afterConsume_paced (State.endTest_paced (State.roomEvent_paced (State.paceCount_paced ?_ i _) i) i) i
    rwa [State.spanConsume_pacing, State.modStream_pacing rfl]

/-! ### What is returned upstream (R23) -/

theorem State.realReturned_paced (h : s.pacing.Sound) (b : Binding) (m : RealMark) (r : Response) :
    (s.realReturned b m r).pacing.Sound := by
  have hlast {u : State} (hu : u.pacing.Sound) : (if m.last then u.consume b.stream else u).pacing.Sound := by
    split
    · exact State.consume_paced hu b.stream
    · exact hu
  unfold State.realReturned
  split
  · dsimp only
    split
    · split
      · exact hlast (by rwa [State.spanConsumerBeat, State.modSpan_pacing])
      · exact h
    · split
      · rw [State.realError_eq]
        exact hlast (by rwa [State.spanConsumerError, State.modSpan_pacing, State.entryFaulted_pacing])
      · rwa [State.memfault_pacing]
  · exact h

theorem State.returnResponse_paced (h : s.pacing.Sound) (x : ResponseSlot) (r : Response) :
    (s.returnResponse p x r).pacing.Sound := by
  unfold State.returnResponse
  dsimp only
  rw [State.modPort_pacing]
  split
  · exact State.realReturned_paced (by exact h) _ _ _
  · exact h

/-- R23: the return of what is due keeps the pacing in form. -/
theorem State.settle_paced (h : s.pacing.Sound) : s.settle.pacing.Sound := by
  have hdue (n : Nat) : (State.returnDue n s).pacing.Sound := by
    induction n generalizing s with
    | zero => exact h
    | succ n ih =>
      rw [State.returnDue]
      split
      · exact h
      · exact ih (State.returnResponse_paced h _ _)
  exact hdue maxResponses

end Paths

end Sys2Proof.Machine

namespace Sys2Proof.Machine

open Sys2Proof Sys2Proof.Safety

/-! ## Commands and events keep the pace lines in form -/

section Commands

variable {s t : State} {i : StreamId} {p : PortId}

/-! ### Beats, expiries and memory results -/

theorem State.acceptWrite_paced (h : s.pacing.Sound) (x : Transaction) (data : Word) (enables : BitVec 4) :
    (s.acceptWrite p x data enables).pacing.Sound := by
  have hdispose {u : State} (hu : u.pacing.Sound) (cls : TransactionClass) :
      (u.disposeWrite p x cls data enables).pacing.Sound := by
    unfold State.disposeWrite
    cases cls with
    | producer b =>
      dsimp only
      split_ifs
      · exact hu
      · exact State.producerBeat_paced hu _ _ _ _
      · exact hu
    | _ => exact hu
  unfold State.acceptWrite
  dsimp only
  refine hdispose ?_ _
  rw [State.modTxn_pacing]
  split
  · rwa [State.assignClass_pacing]
  · exact h

theorem State.handRead_paced (h : s.pacing.Sound) (x : Transaction) (b : Binding) :
    (s.handRead p x b).pacing.Sound := by
  unfold State.handRead
  dsimp only
  split
  · exact State.consumerBeat_paced (by exact h) _ _
  · exact h

/-- R66, R89: an expiry keeps the pacing in form. -/
theorem State.takeExpiry_paced (h : s.pacing.Sound) (x : Transaction) : (s.takeExpiry p x).pacing.Sound := by
  unfold State.takeExpiry
  split
  · split
    · exact State.beginOverrun_paced (by exact h)
    · exact h
  · split
    · rw [State.fillFrame_pacing]
      exact State.beginUnderrun_paced (by exact h)
    · exact h
  · exact h

theorem State.producerOkay_paced (h : s.pacing.Sound) (i : StreamId) (beats : List SegmentBeat) :
    (s.producerOkay i beats).pacing.Sound := by
  have hbeat {u : State} (hu : u.pacing.Sound) (x : SegmentBeat) : (u.beatOkay i x).pacing.Sound := by
    have hcompleted : (u.modProducer i fun ps =>
        { ps with inFlight := completeBeat ps.inFlight x.entry }).pacing.Sound := by
      rwa [State.modProducer_pacing rfl]
    unfold State.beatOkay
    dsimp only
    split
    · exact State.commit_paced hcompleted i
    · exact hcompleted
  unfold State.producerOkay
  induction beats generalizing s with
  | nil => exact h
  | cons x beats ih => exact ih (hbeat h x)

theorem State.producerError_paced (h : s.pacing.Sound) (i : StreamId) (p : PortId) (beats : List SegmentBeat) :
    (s.producerError i p beats).pacing.Sound := by
  unfold State.producerError
  dsimp only
  split
  · refine State.drainTest_paced (State.roomEvent_paced ?_ i) i
    rwa [State.loseByError_pacing, State.memfault_pacing, State.abandonProducer_pacing]
  · split
    · rwa [State.memfault_pacing]
    · exact h

/-- R139: the result of a write segment keeps the pacing in form. -/
theorem State.writeResult_paced (h : s.pacing.Sound) (g : Granted) (r : BusStatus) :
    (s.writeResult g r).pacing.Sound := by
  unfold State.writeResult
  dsimp only
  split
  · split
    · exact h
    · cases r
      · exact State.producerOkay_paced (by exact h) _ _
      · exact State.producerError_paced (by exact h) _ _ _
  · exact h

/-! ### CLOSE (R105, R132, R133) -/

/-- R106: a stream whose producer is HELD drains: it has no producer line to drop. -/
theorem State.draining_paced (h : s.pacing.Sound) (hheld : (s.stream i).producer.phase = .held) :
    (s.modStream i fun st => { st with state := .draining }).pacing.Sound :=
  State.modStream_paced h (fun _ => nofun) fun side hside => by
    cases side with
    | producer => exact absurd (hheld.symm.trans hside.2) (by decide)
    | consumer => exact ⟨.inr rfl, hside.2⟩

/-- R67: the release of a held write by CLOSE DRAIN keeps the pacing in form. -/
theorem State.releaseByDrain_paced (h : s.pacing.Sound) (i : StreamId) : (s.releaseByDrain i).pacing.Sound := by
  unfold State.releaseByDrain
  dsimp only
  split
  · rw [State.excessFrame_pacing, State.endHold_pacing]
    exact State.paceTest_paced (State.setProducerPhase_flowing_paced h i) i
  · exact h

/-- R106, R132: a stream that begins to drain drops its producer line. A HELD producer had no line to drop, and none is granted
at its release, the stream draining. -/
theorem State.beginDrain_paced (h : s.pacing.Sound) (i : StreamId) : (s.beginDrain i).pacing.Sound := by
  refine State.settle_paced (State.drainTest_paced ?_ i)
  by_cases hheld : (s.stream i).producer.phase = .held
  · exact State.paceDrop_paced_self (State.releaseByDrain_paced (State.draining_paced h hheld) i) i .producer
  · have hnone : (s.modStream i fun st => { st with state := .draining }).releaseByDrain i
        = s.modStream i fun st => { st with state := .draining } := by
      simp [State.releaseByDrain, hheld]
    rw [hnone]
    refine State.modStream_paceDrop_paced h rfl (fun _ => nofun) fun side hne hside => ?_
    cases side with
    | producer => exact absurd rfl hne
    | consumer => exact ⟨.inr rfl, hside.2⟩

theorem State.closeDrainCommand_paced (h : s.pacing.Sound) (target : Byte) :
    (State.closeDrainCommand target s).1.pacing.Sound := by
  unfold State.closeDrainCommand
  split
  · exact h
  · next i _ =>
    split
    · exact h
    · exact h
    · exact State.beginDrain_paced h i
    · exact State.becomeClosed_paced h i

theorem State.closeAbortCommand_paced (h : s.pacing.Sound) (target : Byte) :
    (State.closeAbortCommand target s).1.pacing.Sound := by
  have habort (i : StreamId) : (s.abort i).pacing.Sound :=
    State.settle_paced (by exact State.becomeClosed_paced (by exact h) i)
  unfold State.closeAbortCommand
  split
  · exact h
  · next i _ =>
    split
    · exact h
    · exact habort i
    · exact habort i
    · exact State.becomeClosed_paced h i

/-! ### OPEN and the pace line commands (R17, R126, R127) -/

/-- R17: a CLOSED stream has no lines, and no side of it flows: OPEN leaves no line out of form. -/
theorem State.openCommand_paced (h : s.pacing.Sound) (target : Byte) (r : RawDescriptor) :
    (State.openCommand target r s).1.pacing.Sound := by
  unfold State.openCommand
  split
  · exact h
  · split
    · exact h
    · next hchecks =>
      obtain ⟨hclosed, -⟩ := State.openRefusal_eq_none hchecks
      refine State.modStream_paced h (fun _ => nofun) fun side hside => ?_
      cases side with
      | producer => exact ⟨rfl, rfl⟩
      | consumer => exact ⟨.inl rfl, rfl⟩

/-- R126: a line that may be bound finds the stream OPEN, the line UNBOUND, and no line bound to the side. -/
theorem State.bindRefusal_eq_none {l : LineId} {side : Side} {packet : Nat}
    (h : s.bindRefusal l i side packet = none) :
    (s.stream i).state = .opened
      ∧ ∀ m, (s.line m).state ≠ .unbound → (s.line m).stream ≠ i ∨ (s.line m).side ≠ side := by
  unfold State.bindRefusal at h
  split_ifs at h with hstate hpacket hbound
  refine ⟨not_not.mp hstate, fun m hm => ?_⟩
  by_contra hside
  obtain ⟨hstream, hside⟩ := not_or.mp hside
  exact hbound (.inr (State.any_boundTo_iff.mpr ⟨m, hm, not_not.mp hstream, not_not.mp hside⟩))

/-- R126: BIND_PACE keeps the pacing in form. -/
theorem State.bindPaceCommand_paced (h : s.pacing.Sound) (line stream side packet : Byte) :
    (State.bindPaceCommand line stream side packet s).1.pacing.Sound := by
  unfold State.bindPaceCommand
  split
  · next l i sd _ _ _ =>
    split
    · exact h
    · next hpacket =>
      split
      · exact h
      · next hchecks =>
        obtain ⟨hopen, hfree⟩ := State.bindRefusal_eq_none hchecks
        obtain ⟨hpositive, hmost⟩ := not_or.mp hpacket
        have hnew : (Line.bind i sd packet.toNat).Sound (s.stream i).flow :=
          Line.sound_bind (by simp [Stream.flow, hopen]) (Nat.pos_of_ne_zero hpositive) (Nat.not_lt.mp hmost)
        exact State.paceTest_paced (State.setLine_paced h hnew fun _ m _ hm => hfree m hm) i
  · exact h

/-- R127: UNBIND_PACE keeps the pacing in form. -/
theorem State.unbindPaceCommand_paced (h : s.pacing.Sound) (line : Byte) :
    (State.unbindPaceCommand line s).1.pacing.Sound := by
  unfold State.unbindPaceCommand
  split
  · exact h
  · split
    · exact h
    · exact State.setLine_paced h (Line.sound_reset _) fun hb => absurd rfl hb

/-! ### Commands that leave the pacing -/

theorem State.extendCommand_pacing (s : State) (target : Byte) (frames : BitVec 24) :
    (State.extendCommand target frames s).1.pacing = s.pacing := by
  unfold State.extendCommand
  split
  · rfl
  · split
    · rfl
    · exact State.modStream_pacing rfl

theorem State.acknowledgeProducerCommand_pacing (s : State) (target : Byte) :
    (State.acknowledgeProducerCommand target s).1.pacing = s.pacing := by
  unfold State.acknowledgeProducerCommand
  split
  · rfl
  · split_ifs
    · rfl
    · exact State.modStream_pacing rfl
    · rfl

theorem State.acknowledgeConsumerCommand_pacing (s : State) (target : Byte) :
    (State.acknowledgeConsumerCommand target s).1.pacing = s.pacing := by
  unfold State.acknowledgeConsumerCommand
  split
  · rfl
  · split_ifs
    · rfl
    · exact State.modStream_pacing rfl
    · rfl

theorem State.statusCommand_pacing (s : State) (target : Byte) :
    (State.statusCommand target s).1.pacing = s.pacing := by
  unfold State.statusCommand
  split <;> rfl

theorem State.takeNoticeCommand_pacing (s : State) : s.takeNoticeCommand.1.pacing = s.pacing := by
  unfold State.takeNoticeCommand
  split <;> rfl

theorem State.setIntegrityCommand_pacing (s : State) (polynomial initial : Word) :
    (State.setIntegrityCommand polynomial initial s).1.pacing = s.pacing := by
  unfold State.setIntegrityCommand
  split_ifs <;> rfl

theorem State.setTimebaseCommand_pacing (s : State) (divider : Byte) :
    (State.setTimebaseCommand divider s).1.pacing = s.pacing := by
  unfold State.setTimebaseCommand
  split_ifs <;> rfl

/-! ### The management port (R151, R157) -/

/-- R157: the command of a complete frame keeps the pacing in form. -/
theorem State.applyFrame_paced (h : s.pacing.Sound) (frame : List Byte) :
    (State.applyFrame frame s).1.pacing.Sound := by
  unfold State.applyFrame
  split
  · exact State.openCommand_paced h _ _
  · exact State.closeDrainCommand_paced h _
  · exact State.closeAbortCommand_paced h _
  · rwa [State.extendCommand_pacing]
  · rwa [State.acknowledgeProducerCommand_pacing]
  · rwa [State.acknowledgeConsumerCommand_pacing]
  · rwa [State.statusCommand_pacing]
  · rwa [State.takeNoticeCommand_pacing]
  · exact State.bindPaceCommand_paced h _ _ _ _
  · exact State.unbindPaceCommand_paced h _
  · rwa [State.setIntegrityCommand_pacing]
  · exact h
  · rwa [State.setTimebaseCommand_pacing]
  · exact h
  · exact h

/-- R152: a command row keeps the pacing in form if its command does. -/
theorem row_paced {command : State → State × Answer} {frame : List Byte} (h : s.pacing.Sound)
    (ht : Host.Outcome.next (φ := Fault) (ρ := Refusal) (s.frameRow frame command) = .next t)
    (hcommand : ∀ u : State, u.pacing.Sound → (command u).1.pacing.Sound) : t.pacing.Sound := by
  obtain rfl := Host.Outcome.next.inj ht
  unfold State.frameRow
  split
  · exact hcommand (s.modSpi _) h
  · exact h

/-- R152: a command row leaves the pacing that its command leaves. -/
theorem row_paced_of_pacing {command : State → State × Answer} {frame : List Byte} (h : s.pacing.Sound)
    (ht : Host.Outcome.next (φ := Fault) (ρ := Refusal) (s.frameRow frame command) = .next t)
    (hcommand : ∀ u : State, (command u).1.pacing = u.pacing) : t.pacing.Sound :=
  row_paced h ht fun u hu => (hcommand u).symm ▸ hu

/-- R151: a rising edge of SCK is a bit, a byte or a complete frame. -/
theorem State.sckRising_paced (h : s.pacing.Sound) (mosi : Bool) : (s.sckRising mosi).pacing.Sound := by
  have hbyte (b : Byte) : (s.receiveByte b).pacing.Sound := by
    unfold State.receiveByte
    dsimp only
    split
    · exact h
    · exact h
    · split
      · exact State.applyFrame_paced (s := s.modSpi _) h _
      · exact h
    · exact h
    · exact h
  unfold State.sckRising
  dsimp only
  split
  · exact hbyte _
  · exact h

/-! ### Resets (R124) -/

/-- R124: at a reset every line becomes UNBOUND. -/
theorem State.resetBlocks_paced (s : State) : s.resetBlocks.pacing.Sound :=
  Pacing.sound_of_reset <| State.line_mapLines
    ((s.mapPorts fun p port => port.atReset (s.beatsOnMemory p)).mapStreams fun st => Stream.reset st.session)
    fun _ => Line.reset

theorem execPowerOnReset_paced (h : s.pacing.Sound) (ht : execPowerOnReset s = .next t) : t.pacing.Sound := by
  obtain rfl := Host.Outcome.next.inj ht
  split
  · exact State.settle_paced (by exact s.resetBlocks_paced)
  · exact h

theorem execCsnRise_paced (h : s.pacing.Sound) (ht : execCsnRise s = .next t) : t.pacing.Sound := by
  obtain rfl := Host.Outcome.next.inj ht
  split
  · exact h
  · split
    · dsimp only
      split
      · exact State.settle_paced (by exact State.resetBlocks_paced _)
      · exact h
    · exact h

/-! ### The events at the pins and the buses -/

theorem execPowerOnResetEnd_paced (h : s.pacing.Sound) (ht : execPowerOnResetEnd s = .next t) : t.pacing.Sound := by
  obtain rfl := Host.Outcome.next.inj ht
  split <;> exact h

theorem execCsnFall_paced (h : s.pacing.Sound) (ht : execCsnFall s = .next t) : t.pacing.Sound := by
  obtain rfl := Host.Outcome.next.inj ht
  split
  · split <;> exact h
  · exact h

theorem execUnknown_paced {code : Byte} (h : s.pacing.Sound) (ht : execUnknown code s = .next t) :
    t.pacing.Sound := by
  obtain rfl := Host.Outcome.next.inj ht
  split <;> exact h

theorem execSckEdge_paced {edge : SckEdge} (h : s.pacing.Sound) (ht : execSckEdge edge s = .next t) :
    t.pacing.Sound := by
  obtain rfl := Host.Outcome.next.inj ht
  split
  · cases edge with
    | rising mosi => exact State.sckRising_paced h mosi
    | falling => exact h
  · exact h

theorem execMicrosecondTick_paced (h : s.pacing.Sound) (ht : execMicrosecondTick s = .next t) : t.pacing.Sound := by
  obtain rfl := Host.Outcome.next.inj ht
  split <;> exact h

theorem execHoldTimerExpiry_paced (h : s.pacing.Sound) (ht : execHoldTimerExpiry p s = .next t) :
    t.pacing.Sound := by
  obtain rfl := Host.Outcome.next.inj ht
  split
  · split
    · split
      · exact State.settle_paced (State.takeExpiry_paced h _)
      · exact h
    · exact h
  · exact h

theorem execRequestTaken_paced {dir : Dir} {addr : Word} {beats : Nat} (h : s.pacing.Sound)
    (ht : execRequestTaken p dir addr beats s = .next t) : t.pacing.Sound := by
  obtain rfl := Host.Outcome.next.inj ht
  split
  · exact State.settle_paced (by rwa [State.acceptRequest_pacing])
  · exact h

theorem execWriteBeat_paced {data : Word} {enables : BitVec 4} (h : s.pacing.Sound)
    (ht : execWriteBeat p data enables s = .next t) : t.pacing.Sound := by
  obtain rfl := Host.Outcome.next.inj ht
  split
  · split
    · exact State.settle_paced (State.acceptWrite_paced h _ data enables)
    · exact h
  · exact h

theorem execReadBeat_paced (h : s.pacing.Sound) (ht : execReadBeat p s = .next t) : t.pacing.Sound := by
  obtain rfl := Host.Outcome.next.inj ht
  split
  · split
    · split
      · exact State.settle_paced (State.handRead_paced h _ _)
      · exact h
    · exact h
  · exact h

theorem execMemoryWriteCompletion_paced {r : BusStatus} (h : s.pacing.Sound)
    (ht : execMemoryWriteCompletion r s = .next t) : t.pacing.Sound := by
  obtain rfl := Host.Outcome.next.inj ht
  split
  · split
    · rw [State.freeMemory_pacing]
      exact State.settle_paced (State.writeResult_paced h _ r)
    · exact h
  · exact h

theorem execMemoryReadData_paced {data : Word} {r : BusStatus} (h : s.pacing.Sound)
    (ht : execMemoryReadData data r s = .next t) : t.pacing.Sound := by
  obtain rfl := Host.Outcome.next.inj ht
  split
  · split
    · split
      · rw [State.endReadSegment_pacing]
        refine State.settle_paced ?_
        rw [State.readResult_pacing]
        exact h
      · exact h
    · exact h
  · exact h

/-! ### Every command and every step -/

/-- Each command keeps the pacing in form. -/
theorem exec_paced (h : s.pacing.Sound) (c : Instr) (ht : exec c s = .next t) : t.pacing.Sound := by
  cases c with
  | powerOnReset => exact execPowerOnReset_paced h ht
  | powerOnResetEnd => exact execPowerOnResetEnd_paced h ht
  | csnFall => exact execCsnFall_paced h ht
  | csnRise => exact execCsnRise_paced h ht
  | openStream target r => exact row_paced h ht fun _ hu => State.openCommand_paced hu target r
  | closeDrain target => exact row_paced h ht fun _ hu => State.closeDrainCommand_paced hu target
  | closeAbort target => exact row_paced h ht fun _ hu => State.closeAbortCommand_paced hu target
  | extend target frames => exact row_paced_of_pacing h ht (State.extendCommand_pacing · target frames)
  | acknowledgeProducer target => exact row_paced_of_pacing h ht (State.acknowledgeProducerCommand_pacing · target)
  | acknowledgeConsumer target => exact row_paced_of_pacing h ht (State.acknowledgeConsumerCommand_pacing · target)
  | status target => exact row_paced_of_pacing h ht (State.statusCommand_pacing · target)
  | takeNotice _ => exact row_paced_of_pacing h ht State.takeNoticeCommand_pacing
  | bindPace line stream side packet =>
    exact row_paced h ht fun _ hu => State.bindPaceCommand_paced hu line stream side packet
  | unbindPace line => exact row_paced h ht fun _ hu => State.unbindPaceCommand_paced hu line
  | setIntegrity _ polynomial initial =>
    exact row_paced_of_pacing h ht (State.setIntegrityCommand_pacing · polynomial initial)
  | setAlertMask _ _ => exact row_paced_of_pacing h ht fun _ => rfl
  | setTimebase _ divider => exact row_paced_of_pacing h ht (State.setTimebaseCommand_pacing · divider)
  | reset _ => exact row_paced_of_pacing h ht fun _ => rfl
  | unknown _ => exact execUnknown_paced h ht
  | requestTaken _ _ _ _ => exact execRequestTaken_paced h ht
  | writeBeat _ _ _ => exact execWriteBeat_paced h ht
  | readBeat _ => exact execReadBeat_paced h ht
  | microsecondTick => exact execMicrosecondTick_paced h ht
  | holdTimerExpiry _ => exact execHoldTimerExpiry_paced h ht
  | memoryWriteCompletion _ => exact execMemoryWriteCompletion_paced h ht
  | memoryReadData _ _ => exact execMemoryReadData_paced h ht
  | sckEdge _ => exact execSckEdge_paced h ht

/-- Every step keeps the pacing in form. -/
theorem step_paced (h : s.pacing.Sound) (ht : step s = .next t) : t.pacing.Sound := by
  unfold step at ht
  split at ht
  · obtain rfl := Host.Outcome.next.inj ht
    rwa [State.refclk_pacing]
  · next c rest _ => exact exec_paced (s := { s with pending := rest }) h c ht

/-- Settles O55: the Pace Unit's own operations leave each line in form, a side that stops flowing is followed by its drop,
and every other operation leaves the lines and the flows, or lets a side flow again. -/
theorem everyStepKeepsThePaceLinesInForm : Obligations.EveryStepKeepsThePaceLinesInForm := fun _ _ h ht =>
  State.linesInForm_iff.mpr (step_paced (State.linesInForm_iff.mp h) ht)

end Commands

end Sys2Proof.Machine

namespace Sys2Proof.Machine

open Sys2Proof Sys2Proof.Safety

/-! ## Commits and consumes at the Pace Unit (R125, R129, R131) -/

section Counting

variable {s : State} {i : StreamId} {side : Side} {l : LineId} {x : Line}

/-- R129: a line in WATCHING that is tested is GRANTED or stays, as its side is ready or not. -/
theorem State.tested_of_watching (h : x.state = .watching) :
    s.tested x = { x with state := if LineReady (s.stream x.stream) x then .granted else .watching } := by
  rw [State.tested_eq]
  by_cases hready : LineReady (s.stream x.stream) x
  · rw [if_pos ⟨h, hready⟩, if_pos hready]
  · rw [if_neg fun hx => hready hx.2, if_neg hready, ← h]

/-- R129: a line that is not in WATCHING is not tested. -/
theorem State.tested_of_not_watching (h : x.state ≠ .watching) : s.tested x = x := by
  rw [State.tested_eq, if_neg fun hx => h hx.1]

/-- R129: what an event of stream `i` makes of the line `l`. -/
theorem State.paceTest_line (s : State) (i : StreamId) (l : LineId) :
    (s.paceTest i).line l = if (s.line l).stream = i then s.tested (s.line l) else s.line l :=
  State.line_mapLines ..

/-- R131: a commit or a consume leaves the lines of other streams. -/
theorem State.paceCount_line_of_ne (h : (s.line l).stream ≠ i) : (s.paceCount i side).line l = s.line l := by
  rw [State.paceCount, State.line_mapLines, if_neg h]

/-- R131: a commit or a consume leaves a line that is UNBOUND or GRANTED. -/
theorem State.paceCount_line_of_idle (h : (s.line l).state = .unbound ∨ (s.line l).state = .granted) :
    (s.paceCount i side).line l = s.line l := by
  rw [State.paceCount, State.line_mapLines]
  rcases h with h | h <;> simp only [h, ite_self]

/-- R129: a commit or a consume tests a line in WATCHING. -/
theorem State.paceCount_line_of_watching (hi : (s.line l).stream = i) (h : (s.line l).state = .watching) :
    (s.paceCount i side).line l = s.tested (s.line l) := by
  rw [State.paceCount, State.line_mapLines, if_pos hi]
  simp only [h]

/-- R131: a line IN_PACKET counts the frames of its own side. -/
theorem State.paceCount_line_of_inPacket (hi : (s.line l).stream = i) (h : (s.line l).state = .inPacket) :
    (s.paceCount i side).line l =
      if (s.line l).side = side then
        if (s.line l).credit ≤ 1 then s.tested { s.line l with state := .watching, credit := 0 }
        else { s.line l with credit := (s.line l).credit - 1 }
      else s.line l := by
  rw [State.paceCount, State.line_mapLines, if_pos hi]
  simp only [h]

/-- R125: a PACE output is high exactly in GRANTED. -/
theorem State.pace_iff (s : State) (l : LineId) : s.pace l = true ↔ (s.line l).state = .granted := beq_iff_eq

/-- Settles O24: a commit or a consume by the state of the line, a test by whether it is WATCHING. -/
theorem commitOrConsumeCountsThePacket : Obligations.CommitOrConsumeCountsThePacket := by
  refine ⟨?counts, ?tests, State.pace_iff⟩
  case counts =>
    rintro s i side l x rfl
    refine ⟨fun h => ?other, fun hi hpacket hside => ?otherSide, fun hi hwatching => ?watching,
      fun hi hpacket hside hcredit => ?counted, fun hi hpacket hside hcredit => ?ended, rfl⟩
    case other => exact h.elim State.paceCount_line_of_ne State.paceCount_line_of_idle
    case otherSide => rw [State.paceCount_line_of_inPacket hi hpacket, if_neg hside]
    case watching =>
      rw [State.paceCount_line_of_watching hi hwatching, State.tested_of_watching hwatching, hi]
    case counted =>
      rw [State.paceCount_line_of_inPacket hi hpacket, if_pos hside, if_neg (Nat.not_le.mpr hcredit)]
    case ended =>
      rw [State.paceCount_line_of_inPacket hi hpacket, if_pos hside, if_pos hcredit.le, State.tested_of_watching rfl]
      simp only [hi]
  case tests =>
    rintro s i l x rfl
    refine ⟨fun h => ?other, fun hi hwatching => ?watching, rfl⟩
    case other =>
      rw [State.paceTest_line]
      rcases h with h | h
      · rw [if_neg h]
      · rw [State.tested_of_not_watching h, ite_self]
    case watching => rw [State.paceTest_line, if_pos hi, State.tested_of_watching hwatching, hi]

end Counting

end Sys2Proof.Machine

namespace Sys2Proof.Machine

open Sys2Proof Sys2Proof.Safety

/-! ## BIND_PACE and UNBIND_PACE (R126, R127) -/

section BindPace

variable {s : State} {i : StreamId} {l : LineId} {line stream side packet : Byte} {sd : Side} {code : ResultCode}

/-- R156: a line byte that names line `l`. -/
theorem lineTarget_of_eq (h : line.toNat = l.val) : lineTarget line = some l := by
  simp [lineTarget, h]

/-- R156: a line byte above 7 names no line. -/
theorem lineTarget_of_ge (h : 8 ≤ line.toNat) : lineTarget line = none := by
  simp [lineTarget, h]

/-- R156: the side that a side code below 2 names. -/
theorem sideOfByte_of_lt (h : side.toNat < 2) :
    sideOfByte side = some (if side = 0#8 then .producer else .consumer) := by
  unfold sideOfByte
  split_ifs with hzero hone
  · rfl
  · rfl
  · have hzero : side.toNat ≠ 0 := fun hn => hzero (BitVec.eq_of_toNat_eq hn)
    have hone : side.toNat ≠ 1 := fun hn => hone (BitVec.eq_of_toNat_eq hn)
    omega

/-- R156: a side code above 1 names no side. -/
theorem sideOfByte_of_ge (h : 2 ≤ side.toNat) : sideOfByte side = none := by
  have hzero : side ≠ 0#8 := by rintro rfl; exact absurd h (by decide)
  have hone : side ≠ 1#8 := by rintro rfl; exact absurd h (by decide)
  rw [sideOfByte, if_neg hzero, if_neg hone]

/-- R126: the row BIND_PACE, where the port is receiving its frame, completes the frame. -/
theorem exec_bindPace (h : Receiving s (.bindPace line stream side packet)) :
    exec (.bindPace line stream side packet) s =
      .next (s.completeFrame (frameOf (.bindPace line stream side packet))
        (State.bindPaceCommand line stream side packet)) :=
  congrArg _ (State.frameRow_of_receiving h)

/-- R126: a line, stream or side code that names none, or a packet that is not 1 to 64, is refused. -/
theorem State.bindPaceCommand_of_range (s : State)
    (h : 8 ≤ line.toNat ∨ 16 ≤ stream.toNat ∨ 2 ≤ side.toNat ∨ packet = 0#8 ∨ 64 < packet.toNat) :
    State.bindPaceCommand line stream side packet s = (s, Answer.plain .range) := by
  unfold State.bindPaceCommand
  split
  · next hl hi hsd =>
    refine if_pos ?_
    rcases h with h | h | h | h | h
    · simp [lineTarget_of_ge h] at hl
    · simp [streamTarget_of_ge h] at hi
    · simp [sideOfByte_of_ge h] at hsd
    · exact .inl (congrArg BitVec.toNat h)
    · exact .inr h
  · rfl

/-- R126: the operands of a BIND_PACE that passes check 1: line `l`, side `sd` of stream `i`, and a packet of 1 to 64. -/
structure BindOperands (line stream side packet : Byte) (l : LineId) (i : StreamId) (sd : Side) : Prop where
  line : lineTarget line = some l
  stream : streamTarget stream = some i
  side : sideOfByte side = some sd
  packet : ¬ (packet.toNat = 0 ∨ 64 < packet.toNat)

/-- R126: a BIND_PACE that one of checks 2 to 4 refuses. -/
theorem exec_bindPace_refused (h : Receiving s (.bindPace line stream side packet))
    (hop : BindOperands line stream side packet l i sd) (hcode : s.bindRefusal l i sd packet.toNat = some code) :
    exec (.bindPace line stream side packet) s =
      .next (answered s (.bindPace line stream side packet) code.byte []) :=
  exec_of_refused (exec_bindPace h) fun f => by
    have hcode : (s.modSpi f).bindRefusal l i sd packet.toNat = some code := hcode
    simp only [State.bindPaceCommand, hop.line, hop.stream, hop.side, if_neg hop.packet, hcode]

/-- R126, R129: a BIND_PACE that no check refuses binds the line and tests the lines of the stream. -/
theorem exec_bindPace_accepted (h : Receiving s (.bindPace line stream side packet))
    (hop : BindOperands line stream side packet l i sd) (hcode : s.bindRefusal l i sd packet.toNat = none) :
    exec (.bindPace line stream side packet) s =
      .next (((answered s (.bindPace line stream side packet) 0x01#8 []).setLine l
        (Line.bind i sd packet.toNat)).paceTest i) :=
  exec_of_command (op := fun u => (u.setLine l (Line.bind i sd packet.toNat)).paceTest i) (code := .ok)
    (exec_bindPace h)
    (fun f => by
      have hcode : (s.modSpi f).bindRefusal l i sd packet.toNat = none := hcode
      simp only [State.bindPaceCommand, hop.line, hop.stream, hop.side, if_neg hop.packet, hcode, Line.bind])
    fun _ _ => rfl

/-- R126: check 2. -/
theorem State.bindRefusal_state {n : Nat} (h : (s.stream i).state ≠ .opened) :
    s.bindRefusal l i sd n = some .state := if_pos h

/-- R126: check 3. -/
theorem State.bindRefusal_range {n : Nat} (hopen : (s.stream i).state = .opened) (h : (s.stream i).desc.depth / 2 < n) :
    s.bindRefusal l i sd n = some .range := by
  rw [State.bindRefusal, if_neg (not_not.mpr hopen), if_pos h]

/-- R126: check 4, on an OPEN stream that is deep enough. -/
theorem State.bindRefusal_of_deep {n : Nat} (hopen : (s.stream i).state = .opened)
    (hdepth : n ≤ (s.stream i).desc.depth / 2) :
    s.bindRefusal l i sd n =
      if (s.line l).state ≠ .unbound
          ∨ ∃ m : LineId, (s.line m).state ≠ .unbound ∧ (s.line m).stream = i ∧ (s.line m).side = sd then some .bound
      else none := by
  rw [State.bindRefusal, if_neg (not_not.mpr hopen), if_neg (Nat.not_lt.mpr hdepth)]
  simp only [State.any_boundTo_iff]

/-- Settles O22: the refusals by check 1 and by the checks of `State.bindRefusal`, in their order; a line that is bound is
tested with the other line of its stream. -/
theorem bindPaceFollowsItsChecks : Obligations.BindPaceFollowsItsChecks := by
  refine fun s line stream side packet l i h => ⟨fun hrange => ?range, fun hl hi hsd hpacket hmost => ?operands⟩
  case range => exact exec_of_refused (code := .range) (exec_bindPace h) fun f => State.bindPaceCommand_of_range _ hrange
  case operands =>
    have hop : BindOperands line stream side packet l i (if side = 0#8 then .producer else .consumer) :=
      { line := lineTarget_of_eq hl
        stream := streamTarget_of_eq hi
        side := sideOfByte_of_lt hsd
        packet := not_or.mpr ⟨fun hn => hpacket (BitVec.eq_of_toNat_eq hn), Nat.not_lt.mpr hmost⟩ }
    refine ⟨fun hstate => ?state, fun hopen hdepth => ?depth, fun hopen hdepth hbound => ?bound,
      fun hopen hdepth hunbound hfree => ?accepted⟩
    case state => exact exec_bindPace_refused h hop (State.bindRefusal_state hstate)
    case depth => exact exec_bindPace_refused h hop (State.bindRefusal_range hopen hdepth)
    case bound =>
      refine exec_bindPace_refused (code := .bound) h hop ?_
      rw [State.bindRefusal_of_deep hopen hdepth, if_pos hbound]
    case accepted =>
      have hnone : ¬ ((s.line l).state ≠ .unbound ∨ ∃ m : LineId, (s.line m).state ≠ .unbound ∧ (s.line m).stream = i
          ∧ (s.line m).side = if side = 0#8 then .producer else .consumer) :=
        not_or.mpr ⟨not_not.mpr hunbound, fun ⟨m, hm, hstream, hside⟩ => hfree m hm hstream hside⟩
      rw [exec_bindPace_accepted h hop (by rw [State.bindRefusal_of_deep hopen hdepth, if_neg hnone]),
        State.paceTest_eq]
      rfl

/-! ### UNBIND_PACE (R127) -/

/-- R127: the row UNBIND_PACE, where the port is receiving its frame, completes the frame. -/
theorem exec_unbindPace (h : Receiving s (.unbindPace line)) :
    exec (.unbindPace line) s =
      .next (s.completeFrame (frameOf (.unbindPace line)) (State.unbindPaceCommand line)) :=
  congrArg _ (State.frameRow_of_receiving h)

/-- Settles O23: by the command's checks, in their order. -/
theorem unbindPaceFreesTheLine : Obligations.UnbindPaceFreesTheLine := by
  refine fun s line l h => ⟨fun hline => ?range, fun hl hunbound => ?none, fun hl hbound => ?freed⟩
  case range =>
    exact exec_of_refused (code := .range) (exec_unbindPace h) fun f => by
      simp only [State.unbindPaceCommand, lineTarget_of_ge hline]
  case none =>
    exact exec_of_refused (code := .none) (exec_unbindPace h) fun f => by
      simp [State.unbindPaceCommand, lineTarget_of_eq hl, hunbound]
  case freed =>
    exact exec_of_command (op := (State.setLine · l Line.reset)) (code := .ok) (exec_unbindPace h)
      (fun f => by simp [State.unbindPaceCommand, lineTarget_of_eq hl, hbound])
      fun _ _ => rfl

end BindPace

end Sys2Proof.Machine

namespace Sys2Proof.Machine

open Sys2Proof Sys2Proof.Safety

/-! ## Segments and the arbiter (R135, R138) -/

/-! ### Joining a segment (R135) -/

section Joining

variable {port : Port} {older : List Segment} {g : Segment} {kind : SegmentKind} {addr : Word}

/-- R135: what a segment asks of a beat that joins it. -/
theorem Segment.accepts_iff :
    g.accepts kind addr = true
      ↔ addr.toNat = g.addr.toNat + 4 * g.beats.length ∧ g.kind = kind ∧ g.beats.length < 16 := by
  simp only [Segment.accepts, Bool.and_eq_true, beq_iff_eq, decide_eq_true_eq]
  constructor
  · rintro ⟨⟨hkind, haddr⟩, hfew⟩
    exact ⟨haddr.symm, hkind, hfew⟩
  · rintro ⟨haddr, hkind, hfew⟩
    exact ⟨⟨hkind, haddr.symm⟩, hfew⟩

/-- R135: the open segment that accepts a beat takes it as its last one. -/
theorem Port.joinSegment_of_accepts (hsegments : port.segments = older ++ [g]) (hopen : port.newestOpen = true)
    (haccepts : g.accepts kind addr = true) (dir : Dir) (b : Binding) (beat : SegmentBeat) :
    port.joinSegment kind dir addr b beat =
      { port with segments := older ++ [{ g with beats := g.beats ++ [beat] }] } := by
  simp [Port.joinSegment, hsegments, hopen, haccepts]

/-- R135: a beat that no open segment accepts begins a segment at the tail. -/
theorem Port.joinSegment_of_not_accepts
    (h : ∀ x, port.segments.getLast? = some x → port.newestOpen = true → x.accepts kind addr ≠ true)
    (dir : Dir) (b : Binding) (beat : SegmentBeat) :
    port.joinSegment kind dir addr b beat =
      { port with
        newestOpen := true
        segments := port.segments ++ [{ kind := kind, dir := dir, addr := addr, binding := some b, beats := [beat] }] } := by
  unfold Port.joinSegment
  dsimp only
  split
  · next x hlast =>
    have hnot : ¬ (port.newestOpen && x.accepts kind addr) = true := fun hboth =>
      have ⟨hopen, haccepts⟩ := Bool.and_eq_true_iff.mp hboth
      h x hlast hopen haccepts
    rw [if_neg hnot]
  · rfl

end Joining

/-! ### The grant (R134, R138) -/

section Granting

variable {s : State} {p : PortId} {g : Segment} {rest : List Segment}

/-- With no segment ready on any of the ports, nothing is granted. -/
theorem State.grantFirst_of_none_ready (s : State) (ps : List PortId) (h : ∀ q ∈ ps, (s.port q).segments = []) :
    s.grantFirst ps = s := by
  induction ps with
  | nil => rfl
  | cons q qs ih =>
    obtain ⟨hq, hqs⟩ := List.forall_mem_cons.mp h
    rw [State.grantFirst, hq]
    exact ih hqs

/-- The port at place `n` is granted where it has a segment ready and the ports before it have none. -/
theorem State.grantFirst_of_first_ready (hsegments : (s.port p).segments = g :: rest) {n : Nat} {ps : List PortId}
    (hp : ps[n]? = some p) (hearlier : ∀ m < n, ∀ q, ps[m]? = some q → (s.port q).segments = []) :
    s.grantFirst ps = s.grant p g rest := by
  induction ps generalizing n with
  | nil => simp at hp
  | cons q qs ih =>
    cases n with
    | zero =>
      obtain rfl : q = p := by simpa using hp
      rw [State.grantFirst, hsegments]
    | succ n =>
      have hq : (s.port q).segments = [] := hearlier 0 n.succ_pos q rfl
      rw [State.grantFirst, hq]
      exact ih (by simpa using hp) fun m hm x hx => hearlier (m + 1) (Nat.succ_lt_succ hm) x (by simpa using hx)

/-- R138: the port at place `n` of the cyclic order is the one `n + 1` after the pointer. -/
theorem cyclicAfter_getElem?_iff (l p : PortId) {n : Nat} (hn : n < 4) :
    (cyclicAfter l)[n]? = some p ↔ p.val = (l.val + 1 + n) % 4 := by
  revert l p n
  decide

/-- R138: the arbiter changes nothing while the memory port is BUSY, or with no segment ready. -/
theorem State.arbitrate_of_busy_or_none_ready (h : s.memory ≠ none ∨ ∀ q : PortId, (s.port q).segments = []) :
    s.arbitrate = s := by
  cases hm : s.memory with
  | some granted => exact State.arbitrate_of_busy hm
  | none =>
    have hnone : ∀ q : PortId, (s.port q).segments = [] := h.resolve_left (not_not.mpr hm)
    rw [State.arbitrate, hm]
    exact s.grantFirst_of_none_ready _ fun q _ => hnone q

/-- R138: a FREE memory port goes to the first port, in cyclic order from the one after the pointer, that has a segment. -/
theorem State.arbitrate_of_first_ready {n : Nat} (hfree : s.memory = none) (hn : n < 4)
    (hp : p.val = (s.lastGranted.val + 1 + n) % 4) (hsegments : (s.port p).segments = g :: rest)
    (hearlier : ∀ (m : Nat) (q : PortId), m < n → q.val = (s.lastGranted.val + 1 + m) % 4 → (s.port q).segments = []) :
    s.arbitrate = s.grant p g rest := by
  rw [State.arbitrate, hfree]
  exact State.grantFirst_of_first_ready hsegments ((cyclicAfter_getElem?_iff _ _ hn).mpr hp) fun m hm q hq =>
    hearlier m q hm ((cyclicAfter_getElem?_iff _ _ (hm.trans hn)).mp hq)

/-- R138: the whole state after a grant. The newest segment stays open only where a segment is left. -/
theorem State.grant_eq (s : State) (p : PortId) (g : Segment) (rest : List Segment) :
    s.grant p g rest =
      { s with
        memory := some { owner := p, segment := g, answered := 0, discarded := false }
        lastGranted := p
        ports := s.ports.set p
          { s.port p with
            segments := rest
            newestOpen := (s.port p).newestOpen && decide (rest ≠ []) } } := by
  have hleft : (!rest.isEmpty) = decide (rest ≠ []) := by cases rest <;> rfl
  rw [← hleft]
  rfl

end Granting

/-- Settles O52: by whether the port's newest segment takes the beat, and by the place of the first ready port in the cyclic
order. -/
theorem segmentsGrowAndTheArbiterGrantsInCyclicOrder : Obligations.SegmentsGrowAndTheArbiterGrantsInCyclicOrder := by
  refine ⟨fun port older g kind dir addr b beat => ⟨?joins, ?begins⟩,
    fun s => ⟨rfl, State.arbitrate_of_busy_or_none_ready, ?granted⟩⟩
  case joins =>
    intro hsegments hopen haddr hkind hfew
    exact Port.joinSegment_of_accepts hsegments hopen (Segment.accepts_iff.mpr ⟨haddr, hkind, hfew⟩) dir b beat
  case begins =>
    intro h
    refine Port.joinSegment_of_not_accepts (fun x hlast hopen haccepts => ?_) dir b beat
    obtain ⟨haddr, hkind, hfew⟩ := Segment.accepts_iff.mp haccepts
    obtain hnone | ⟨hsegments, hrefused⟩ := h
    · simp [hnone] at hlast
    · obtain rfl : g = x := by simpa [hsegments] using hlast
      obtain hclosed | hfar | hother | hfull := hrefused
      · simp [hclosed] at hopen
      · exact hfar haddr
      · exact hother hkind
      · exact absurd hfew (Nat.not_lt.mpr hfull)
  case granted =>
    intro n p g rest hfree hn hp hsegments hearlier
    rw [State.arbitrate_of_first_ready hfree hn hp hsegments hearlier, State.grant_eq]

end Sys2Proof.Machine

namespace Sys2Proof.Machine

open Sys2Proof Sys2Proof.Safety

/-! ## A notice offered to the queue (R143, R144) -/

section Offered

variable {q : NoticeQueue} {older : List Notice} {n : Notice}

/-- R144: the newest record is the one at the tail. -/
theorem NoticeQueue.newestLost_of_tail (h : q.records = older ++ [n]) : q.newestLost = (n.kind == .lost) := by
  simp [newestLost, h]

/-- R144: one more notice is counted at the tail. -/
theorem NoticeQueue.countLost_append (older : List Notice) (n : Notice) :
    countLost (older ++ [n]) = older ++ [{ n with value1 := lostUp n.value1 }] := by
  simp [countLost]

variable (kind : NoticeKind) (subject : Byte) (side : NoticeSide) (value1 value2 : Word)

/-- R143: a notice that finds room is appended. -/
theorem NoticeQueue.post_of_room (h : q.records.length ≤ 30) :
    q.post kind subject side value1 value2 =
      { records := q.records ++ [⟨kind, q.sequence, subject, side, value1, value2⟩]
        sequence := q.sequence + 1#8, mask := q.mask } := by
  rw [post, if_pos (show q.records.length ≤ Config.queueRoom from h)]

/-- R144: with no room, a notice is counted into the LOST record at the tail. -/
theorem NoticeQueue.post_of_lost (hfull : 31 ≤ q.records.length) (htail : q.records = older ++ [n])
    (hlost : n.kind = .lost) :
    q.post kind subject side value1 value2 =
      { records := older ++ [{ n with value1 := lostUp n.value1 }], sequence := q.sequence + 1#8, mask := q.mask } := by
  have hnoRoom : ¬ q.records.length ≤ Config.queueRoom := Nat.not_le.mpr hfull
  have hnewest : q.newestLost = true := by rw [newestLost_of_tail htail, hlost]; rfl
  rw [post, if_neg hnoRoom, if_pos hnewest, htail, countLost_append]

/-- R144: with no room and no LOST record at the tail, a LOST record is appended. -/
theorem NoticeQueue.post_of_full (hfull : 31 ≤ q.records.length) (hnewest : q.newestLost = false) :
    q.post kind subject side value1 value2 =
      { records := q.records ++ [lostRecord q.sequence], sequence := q.sequence + 1#8, mask := q.mask } := by
  have hnoRoom : ¬ q.records.length ≤ Config.queueRoom := Nat.not_le.mpr hfull
  have hnot : ¬ q.newestLost = true := Bool.eq_false_iff.mp hnewest
  rw [post, if_neg hnoRoom, if_neg hnot]

end Offered

/-- Settles O20: by whether there is room, and by the record at the tail. -/
theorem offeredNoticeIsPlacedOrCountedAsLost : Obligations.OfferedNoticeIsPlacedOrCountedAsLost := by
  refine fun q older n kind subject side value1 value2 =>
    ⟨NoticeQueue.post_of_room kind subject side value1 value2, fun hfull htail hlost => ?counted,
      fun hlength htail hother => ?appended⟩
  case counted =>
    rw [NoticeQueue.post_of_lost _ _ _ _ _ hfull htail hlost, lostUp]
    split_ifs with h255
    · rw [h255]
    · rfl
  case appended =>
    refine NoticeQueue.post_of_full _ _ _ _ _ hlength.ge ?_
    rw [NoticeQueue.newestLost_of_tail htail]
    exact beq_false_of_ne hother

end Sys2Proof.Machine

namespace Sys2Proof.Machine

open Sys2Proof Sys2Proof.Safety

/-! ## TAKE_NOTICE and SET_ALERT_MASK (R146, R147, R165) -/

section NoticeCommands

variable {s : State} {target : Byte}

/-- R165: the code of a notice kind fits its byte. -/
theorem NoticeKind.code_lt (kind : NoticeKind) : kind.code < 2 ^ 8 := by cases kind <;> decide

/-- R165: the code of a notice's side. -/
theorem NoticeSide.code_toNat (side : NoticeSide) :
    side.code.toNat = match side with | .none => 0 | .producer => 1 | .consumer => 2 := by
  cases side <;> rfl

/-- R165: a notice record has 12 bytes. -/
theorem Notice.length_toBytes (n : Notice) : n.toBytes.length = 12 := by simp [toBytes]

/-- R146: the row TAKE_NOTICE, where the port is receiving its frame, completes the frame. -/
theorem exec_takeNotice (h : Receiving s (.takeNotice target)) :
    exec (.takeNotice target) s = .next (s.completeFrame (frameOf (.takeNotice target)) State.takeNoticeCommand) :=
  congrArg _ (State.frameRow_of_receiving h)

/-- R146: TAKE_NOTICE on an empty queue answers EMPTY. -/
theorem exec_takeNotice_of_empty (h : Receiving s (.takeNotice target)) (hempty : s.queue.records = []) :
    exec (.takeNotice target) s = .next (answered s (.takeNotice target) 0x0A#8 []) :=
  exec_of_refused (code := .empty) (exec_takeNotice h) fun f => by simp [State.takeNoticeCommand, hempty]

/-- R146: TAKE_NOTICE removes the head record and answers it. -/
theorem exec_takeNotice_of_head {n : Notice} {rest : List Notice} (h : Receiving s (.takeNotice target))
    (hhead : s.queue.records = n :: rest) :
    exec (.takeNotice target) s =
      .next { answered s (.takeNotice target) 0x01#8 n.toBytes with queue := { s.queue with records := rest } } := by
  have hcommand (f : Management → Management) : (s.modSpi f).takeNoticeCommand =
      ({ s.modSpi f with queue := { s.queue with records := rest } }, { code := .ok, bytes := n.toBytes }) := by
    simp [State.takeNoticeCommand, hhead]
  rw [exec_takeNotice h, State.completeFrame_eq, hcommand]
  rfl

/-- R165: the fields of a notice record, each at its offset. -/
theorem Notice.toBytes_fields (n : Notice) :
    fieldAt n.toBytes 0 1 = n.kind.code ∧ fieldAt n.toBytes 1 1 = n.sequence.toNat
      ∧ fieldAt n.toBytes 2 1 = n.subject.toNat
      ∧ fieldAt n.toBytes 3 1 = (match n.side with | .none => 0 | .producer => 1 | .consumer => 2)
      ∧ fieldAt n.toBytes 4 4 = n.value1.toNat ∧ fieldAt n.toBytes 8 4 = n.value2.toNat := by
  have hword (x : Word) : x.toNat % 256 ^ 4 = x.toNat := Nat.mod_eq_of_lt x.isLt
  have hlast (x : Word) : fieldAt (beBytes 4 x.toNat) 0 4 = x.toNat := by
    rw [← List.append_nil (beBytes 4 x.toNat), fieldAt_beBytes_append, hword]
  simp only [toBytes, List.cons_append, List.nil_append, fieldAt_cons_zero, fieldAt_cons_succ,
    fieldAt_beBytes_append, fieldAt_append_of_le, length_beBytes, Nat.reduceLeDiff, Nat.reduceSub, hword, hlast]
  exact ⟨Nat.mod_eq_of_lt n.kind.code_lt, trivial, trivial, n.side.code_toNat, trivial, trivial⟩

/-- R147: the row SET_ALERT_MASK, where the port is receiving its frame, replaces the mask and answers OK. -/
theorem exec_setAlertMask_of_receiving {mask : BitVec 16} (h : Receiving s (.setAlertMask target mask)) :
    exec (.setAlertMask target mask) s =
      .next { answered s (.setAlertMask target mask) 0x01#8 [] with queue := { s.queue with mask := mask } } :=
  congrArg _ (State.frameRow_of_receiving h)

/-- Settles O21: by whether the queue has a head record, whose bytes are laid out by the offsets of R165. -/
theorem takeNoticeAndSetAlertMaskAnswer : Obligations.TakeNoticeAndSetAlertMaskAnswer := by
  refine ⟨fun s target h => ⟨exec_takeNotice_of_empty h, fun n rest hhead => ?taken⟩,
    fun s target mask h => exec_setAlertMask_of_receiving h⟩
  case taken => exact ⟨exec_takeNotice_of_head h hhead, n.length_toBytes, n.toBytes_fields⟩

end NoticeCommands

end Sys2Proof.Machine

namespace Sys2Proof.Machine

open Sys2Proof Sys2Proof.Safety

/-! ## The Notice Queue in form (R143, R144) -/

section Form

variable {q : NoticeQueue} {older : List Notice} {n : Notice}

/-- R143: the records before the newest account for the numbers up to it, and the newest for those up to the counter. -/
theorem accountFrom_append (older : List Notice) (n : Notice) (counter : BitVec 8) :
    accountFrom (older ++ [n]) counter = (accountFrom older n.sequence && decide (Accounts n counter)) := by
  induction older with
  | nil => simp [accountFrom]
  | cons m older ih =>
    cases older with
    | nil => simp [accountFrom]
    | cons m' older =>
      simp only [List.cons_append, accountFrom] at ih ⊢
      rw [ih, Bool.and_assoc]

/-- R143: a LOST record with one more notice counted accounts for one more number. -/
theorem accounts_countLost {counter : BitVec 8} (hlost : n.kind = .lost) (h : Accounts n counter) :
    Accounts { n with value1 := lostUp n.value1 } (counter + 1#8) := by
  by_cases h255 : n.value1 = 255#32
  · exact .inl ⟨hlost, by simp [lostUp, h255]⟩
  · have hnext : nextNumber n = counter := h.resolve_left fun hboth => h255 hboth.2
    refine .inr ?_
    simp only [nextNumber, hlost, if_true, lostUp, h255, if_false] at hnext ⊢
    rw [← hnext]
    bv_omega

/-- R144: the count of a LOST record stays between 1 and 255. -/
theorem lostUp_bounds {v : Word} (h : 1 ≤ v.toNat ∧ v.toNat ≤ 255) : 1 ≤ (lostUp v).toNat ∧ (lostUp v).toNat ≤ 255 := by
  unfold lostUp
  split_ifs with h255
  · exact h
  · bv_omega

/-- R143, R144: a record that takes the counter's number and accounts for it is appended to a queue with room for it. -/
theorem noticesInForm_append (h : NoticesInForm q) (hnumber : n.sequence = q.sequence)
    (haccounts : Accounts n (q.sequence + 1#8))
    (hroom : q.records.length ≤ 30 ∨ q.records.length = 31 ∧ n.kind = .lost)
    (hcount : n.kind = .lost → 1 ≤ n.value1.toNat ∧ n.value1.toNat ≤ 255) (mask : BitVec 16) :
    NoticesInForm { records := q.records ++ [n], sequence := q.sequence + 1#8, mask := mask } := by
  obtain ⟨hlength, hothers, hnewest, hcounts, haccount⟩ := h
  refine ⟨?length, ?others, ?newest, ?counts, ?account⟩
  case length =>
    simp only [List.length_append, List.length_singleton]
    omega
  case others =>
    have hfilter : (q.records.filter fun n => n.kind != .lost).length ≤ q.records.length := List.length_filter_le ..
    rw [List.filter_append, List.length_append]
    obtain hroom | ⟨-, hlost⟩ := hroom
    · have hone : ([n].filter fun n => n.kind != .lost).length ≤ 1 := List.length_filter_le ..
      omega
    · simpa [hlost] using hothers
  case newest =>
    intro hfull
    obtain hroom | ⟨-, hlost⟩ := hroom
    · simp only [List.length_append, List.length_singleton] at hfull
      omega
    · rw [NoticeQueue.newestLost_of_tail rfl, hlost]
      rfl
  case counts =>
    intro m hm
    obtain hm | hm := List.mem_append.mp hm
    · exact hcounts m hm
    · exact List.mem_singleton.mp hm ▸ hcount
  case account => rw [accountFrom_append, hnumber, haccount, decide_eq_true haccounts]; rfl

/-- R144: one more notice is counted into the LOST record at the tail. -/
theorem noticesInForm_countLost (h : NoticesInForm q) (htail : q.records = older ++ [n]) (hlost : n.kind = .lost)
    (mask : BitVec 16) :
    NoticesInForm
      { records := older ++ [{ n with value1 := lostUp n.value1 }], sequence := q.sequence + 1#8, mask := mask } := by
  obtain ⟨hlength, hothers, -, hcounts, haccount⟩ := h
  rw [htail] at hlength hothers hcounts haccount
  rw [accountFrom_append, Bool.and_eq_true, decide_eq_true_eq] at haccount
  obtain ⟨holder, haccounts⟩ := haccount
  refine ⟨by simpa using hlength, by simpa [List.filter_append, hlost] using hothers, fun _ => ?newest, ?counts,
    ?account⟩
  case newest =>
    rw [NoticeQueue.newestLost_of_tail rfl, hlost]
    rfl
  case counts =>
    intro m hm
    obtain hm | hm := List.mem_append.mp hm
    · exact hcounts m (List.mem_append_left _ hm)
    · obtain rfl := List.mem_singleton.mp hm
      exact fun _ => lostUp_bounds (hcounts n (List.mem_append_right _ (List.mem_singleton_self n)) hlost)
  case account =>
    rw [accountFrom_append, holder, decide_eq_true (accounts_countLost hlost haccounts)]
    rfl

/-- R143, R144: a notice offered that is not itself a LOST record keeps the queue in form. -/
theorem noticesInForm_post (h : NoticesInForm q) {kind : NoticeKind} (hkind : kind ≠ .lost) (subject : Byte)
    (side : NoticeSide) (value1 value2 : Word) : NoticesInForm (q.post kind subject side value1 value2) := by
  by_cases hroom : q.records.length ≤ 30
  · rw [NoticeQueue.post_of_room _ _ _ _ _ hroom]
    exact noticesInForm_append h rfl (.inr (by simp [nextNumber, hkind])) (.inl hroom) (fun hlost => absurd hlost hkind) _
  · have hfull : 31 ≤ q.records.length := Nat.not_le.mp hroom
    cases hnewest : q.newestLost with
    | true =>
      have hne : q.records ≠ [] := List.ne_nil_of_length_pos (Nat.zero_lt_of_lt hfull)
      obtain ⟨older, n, htail⟩ := q.records.eq_nil_or_concat'.resolve_left hne
      have hlost : n.kind = .lost := by simpa [NoticeQueue.newestLost_of_tail htail] using hnewest
      rw [NoticeQueue.post_of_lost _ _ _ _ _ hfull htail hlost]
      exact noticesInForm_countLost h htail hlost _
    | false =>
      have ⟨hmost, _, h32, _⟩ := h
      have hlength : q.records.length = 31 := by
        have hne : q.records.length ≠ 32 := fun hlast => Bool.false_ne_true (hnewest.symm.trans (h32 hlast))
        omega
      rw [NoticeQueue.post_of_full _ _ _ _ _ hfull hnewest]
      exact noticesInForm_append h rfl (.inr rfl) (.inr ⟨hlength, rfl⟩) (fun _ => by simp [lostRecord]) _

/-- R146: the queue is in form without its head record. -/
theorem noticesInForm_tail {rest : List Notice} (h : NoticesInForm q) (hhead : q.records = n :: rest) :
    NoticesInForm { q with records := rest } := by
  obtain ⟨hlength, hothers, -, hcounts, haccount⟩ := h
  rw [hhead] at hlength hothers hcounts haccount
  have hlength : rest.length ≤ 31 := Nat.le_of_succ_le_succ hlength
  refine ⟨Nat.le_succ_of_le hlength, ?others, fun hfull => absurd hfull (Nat.ne_of_lt (Nat.lt_succ_of_le hlength)),
    fun m hm => hcounts m (List.mem_cons_of_mem n hm), ?account⟩
  case others => exact (((List.sublist_cons_self n rest).filter _).length_le).trans hothers
  case account =>
    cases rest with
    | nil => rfl
    | cons m rest =>
      rw [accountFrom, Bool.and_eq_true] at haccount
      exact haccount.2

/-- R149: the emptied queue is in form. -/
theorem noticesInForm_reset : NoticesInForm NoticeQueue.reset := by
  simp [NoticesInForm, NoticeQueue.reset, accountFrom]

/-- R143: a notice that a block offers, none of which is a LOST record, keeps the queue in form. -/
theorem State.post_noticed {s : State} (h : NoticesInForm s.queue) {kind : NoticeKind} {subject : Byte}
    {side : NoticeSide} {value1 value2 : Word} (hkind : kind ≠ .lost) :
    NoticesInForm (s.post kind subject side value1 value2).queue :=
  noticesInForm_post h hkind subject side value1 value2

end Form

end Sys2Proof.Machine

namespace Sys2Proof.Machine

open Sys2Proof Sys2Proof.Safety

/-! ## Operations that offer no notice -/

section Silent

variable (s : State) (i : StreamId) (p : PortId)

@[simp] theorem State.freeMemory_queue : s.freeMemory.queue = s.queue := State.arbitrate_queue _

/-! ### The Producer Path -/

@[simp] theorem State.forwardPlaced_queue (k : Nat) (data : Word) (offset : Nat) :
    (s.forwardPlaced i p k data offset).queue = s.queue := by
  unfold State.forwardPlaced
  dsimp only
  split
  · rfl
  · exact State.forward_queue ..

/-- R44: a frame start that is placed is no notice. -/
@[simp] theorem State.startPlaced_queue (k : Nat) (data : Word) : (s.startPlaced i p k data).queue = s.queue :=
  State.forwardPlaced_queue ..

@[simp] theorem State.placeFrame_queue (k : Nat) (data : Word) : (s.placeFrame i p k data).queue = s.queue :=
  State.startPlaced_queue ..

/-- R65: a held write is released without a notice. -/
@[simp] theorem State.roomEvent_queue : (s.roomEvent i).queue = s.queue := by
  unfold State.roomEvent
  dsimp only
  split
  · split
    · split
      · exact State.startPlaced_queue ..
      · rfl
    · rfl
  · rfl

@[simp] theorem State.endProducerFrame_queue : (s.endProducerFrame i p).queue = s.queue := by
  unfold State.endProducerFrame
  dsimp only
  split <;> rfl

@[simp] theorem State.continueProducer_queue (k : Nat) (data : Word) (offset : Nat) :
    (s.continueProducer i p k data offset).queue = s.queue := by
  unfold State.continueProducer
  dsimp only
  split
  · exact State.forwardPlaced_queue ..
  · rfl

@[simp] theorem State.loseByError_queue (filling : Bool) : (s.loseByError i filling).queue = s.queue := by
  unfold State.loseByError
  split <;> rfl

/-! ### The Consumer Path -/

@[simp] theorem State.forwardReal_queue (k offset : Nat) : (s.forwardReal i p k offset).queue = s.queue := by
  unfold State.forwardReal
  dsimp only
  split
  · rfl
  · exact State.forward_queue ..

/-- R82: a REAL frame start is no notice. -/
@[simp] theorem State.startReal_queue (k : Nat) : (s.startReal i p k).queue = s.queue := State.forwardReal_queue ..

@[simp] theorem State.fillBeat_queue (k offset : Nat) : (s.fillBeat i p k offset).queue = s.queue := by
  unfold State.fillBeat
  dsimp only
  split
  · rfl
  · rfl
  · split
    · exact State.forward_queue ..
    · rfl

@[simp] theorem State.fillFrame_queue (k : Nat) : (s.fillFrame i p k).queue = s.queue := State.fillBeat_queue ..

@[simp] theorem State.releaseHeldSlot_queue : (s.releaseHeldSlot i).queue = s.queue := by
  unfold State.releaseHeldSlot
  dsimp only
  split
  · exact State.roomEvent_queue ..
  · rfl

/-- R89: a waiting read is released without a notice. -/
@[simp] theorem State.releaseWaiting_queue : (s.releaseWaiting i).queue = s.queue := by
  unfold State.releaseWaiting
  dsimp only
  split
  · split
    · exact State.startReal_queue ..
    · rfl
  · rfl

@[simp] theorem State.endConsumerFrame_queue : (s.endConsumerFrame i).queue = s.queue := by
  unfold State.endConsumerFrame
  split <;> rfl

@[simp] theorem State.continueConsumer_queue (k offset : Nat) : (s.continueConsumer i p k offset).queue = s.queue := by
  unfold State.continueConsumer
  split <;> simp

@[simp] theorem State.fillHeldRead_queue : (s.fillHeldRead i).queue = s.queue := by
  unfold State.fillHeldRead
  split
  · split <;> rfl
  · rfl

/-! ### Ports, the memory port and the timebase -/

@[simp] theorem State.endReadSegment_queue (g : Granted) : (s.endReadSegment g).queue = s.queue := by
  unfold State.endReadSegment
  split <;> simp

@[simp] theorem State.refclk_queue : s.refclk.queue = s.queue := by
  unfold State.refclk
  split_ifs <;> rfl

end Silent

end Sys2Proof.Machine

namespace Sys2Proof.Machine

open Sys2Proof Sys2Proof.Safety

/-! ## The paths keep the Notice Queue in form -/

section Paths

variable {s : State} {i : StreamId} {p : PortId}

/-! ### Spans and memory faults (R85, R120) -/

theorem State.memfault_noticed (h : NoticesInForm s.queue) (side : NoticeSide) (frame : Word) :
    NoticesInForm (s.memfault i side frame).queue := State.post_noticed h (by decide)

/-- R120: the report of a span offers MISMATCH or nothing. -/
theorem State.spanReport_noticed (h : NoticesInForm s.queue) (sp : SpanState) (faulted : Bool) :
    NoticesInForm (s.spanReport i sp faulted).queue := by
  unfold State.spanReport
  split
  · exact h
  · split
    · exact h
    · split
      · exact h
      · exact State.post_noticed h (by decide)

theorem State.spanConsume_noticed (h : NoticesInForm s.queue) (slot : Nat) (faulted : Bool) :
    NoticesInForm (s.spanConsume i slot faulted).queue := by
  unfold State.spanConsume
  split
  · exact h
  · dsimp only
    rw [State.modSpan_queue]
    split
    · exact State.spanReport_noticed h _ faulted
    · exact h

/-! ### The Producer Path -/

/-- R102: the first excess frame of a session offers EXCESS. -/
theorem State.excessFrame_noticed (h : NoticesInForm s.queue) : NoticesInForm (s.excessFrame i p).queue := by
  unfold State.excessFrame
  dsimp only [State.absorbFrame]
  rw [State.closeSegment_queue, State.modProducer_queue]
  split
  · exact State.post_noticed h (by decide)
  · exact h

theorem State.beginOverrun_noticed (h : NoticesInForm s.queue) : NoticesInForm (s.beginOverrun i p).queue :=
  State.post_noticed (s := s.modStream i _) h (by decide)

theorem State.resumeOverrun_noticed (h : NoticesInForm s.queue) (k : Nat) (data : Word) :
    NoticesInForm (s.resumeOverrun i p k data).queue := by
  rw [State.resumeOverrun, State.placeFrame_queue, State.paceTest_queue]
  exact State.post_noticed h (by decide)

/-- R43: a producer frame start keeps the queue in form. -/
theorem State.producerFrameStart_noticed (h : NoticesInForm s.queue) (k : Nat) (data : Word) :
    NoticesInForm (s.producerFrameStart i p k data).queue := by
  unfold State.producerFrameStart
  split
  · exact State.excessFrame_noticed h
  · rwa [State.placeFrame_queue]
  · exact State.beginOverrun_noticed h
  · exact h
  · exact State.resumeOverrun_noticed h k data
  · exact h

theorem State.producerLoss_noticed (h : NoticesInForm s.queue) (reason : Word) :
    NoticesInForm (s.producerLoss i reason).queue := State.post_noticed h (by decide)

theorem State.losePlacement_noticed (h : NoticesInForm s.queue) (reason : Word) :
    NoticesInForm (s.losePlacement i p reason).queue :=
  State.producerLoss_noticed (s := State.modProducer _ i _) (by simpa using h) reason

theorem State.earlyFrame_noticed (h : NoticesInForm s.queue) (k : Nat) (data : Word) :
    NoticesInForm (s.earlyFrame i p k data).queue := by
  rw [State.earlyFrame]
  refine State.producerFrameStart_noticed ?_ k data
  rw [State.modProducer_queue]
  exact State.producerLoss_noticed (by rwa [State.endProducerFrame_queue]) _

/-! ### The Consumer Path -/

/-- R86: an underrun condition offers UNDERRUN. -/
theorem State.beginUnderrun_noticed (h : NoticesInForm s.queue) : NoticesInForm (s.beginUnderrun i).queue :=
  State.post_noticed (s := s.modStream i _) h (by decide)

theorem State.resumeUnderrun_noticed (h : NoticesInForm s.queue) (k : Nat) :
    NoticesInForm (s.resumeUnderrun i p k).queue := by
  have hreleased : NoticesInForm ((s.releaseHeldSlot i).setConsumerPhase i .flowing).queue := by
    rwa [State.setConsumerPhase, State.modConsumer_queue, State.releaseHeldSlot_queue]
  rw [State.resumeUnderrun, State.startReal_queue, State.paceTest_queue]
  exact State.post_noticed hreleased (by decide)

/-- R80: a consumer frame start keeps the queue in form. -/
theorem State.consumerFrameStart_noticed (h : NoticesInForm s.queue) (k : Nat) :
    NoticesInForm (s.consumerFrameStart i p k).queue := by
  unfold State.consumerFrameStart
  split
  · exact h
  · rwa [State.startReal_queue]
  · exact h
  · rw [State.fillFrame_queue]
    exact State.beginUnderrun_noticed h
  · exact h
  · exact State.resumeUnderrun_noticed h k
  · rwa [State.fillFrame_queue]

theorem State.decideDeferred_noticed (h : NoticesInForm s.queue) (i : StreamId) :
    NoticesInForm (s.decideDeferred i).queue := by
  unfold State.decideDeferred
  dsimp only
  split
  · split
    · exact State.consumerFrameStart_noticed (s := s.modTxn _ _) h _
    · exact h
  · exact h

theorem State.consumerLoss_noticed (h : NoticesInForm s.queue) (reason : Word) :
    NoticesInForm (s.consumerLoss i reason).queue := State.post_noticed h (by decide)

theorem State.misplacedRead_noticed (h : NoticesInForm s.queue) (k : Nat) :
    NoticesInForm (s.misplacedRead i p k).queue :=
  State.consumerLoss_noticed (s := State.modConsumer _ i _) (by simpa using h) _

theorem State.earlyRead_noticed (h : NoticesInForm s.queue) (k : Nat) : NoticesInForm (s.earlyRead i p k).queue := by
  rw [State.earlyRead]
  refine State.consumerFrameStart_noticed ?_ k
  rw [State.modConsumer_queue]
  exact State.consumerLoss_noticed (by rwa [State.endConsumerFrame_queue]) _

/-- R77: a read beat of the Consumer Path keeps the queue in form. -/
theorem State.consumerBeat_noticed (h : NoticesInForm s.queue) (k offset : Nat) :
    NoticesInForm (s.consumerBeat i p k offset).queue := by
  unfold State.consumerBeat
  dsimp only
  split
  · exact h
  · split
    · split_ifs
      · exact State.consumerFrameStart_noticed h k
      · rwa [State.continueConsumer_queue]
      · exact State.earlyRead_noticed h k
      · exact State.misplacedRead_noticed h k
    · split_ifs
      · exact State.consumerFrameStart_noticed (s := s.modConsumer i _) h k
      · exact h

/-! ### Closing, commits and consumes -/

/-- R108: the drain test offers DRAINED or nothing. -/
theorem State.drainTest_noticed (h : NoticesInForm s.queue) (i : StreamId) : NoticesInForm (s.drainTest i).queue := by
  have hfilled : NoticesInForm (s.fillHeldRead i).queue := by rwa [State.fillHeldRead_queue]
  unfold State.drainTest
  split
  · exact State.post_noticed (s := (s.fillHeldRead i).becomeClosed i) hfilled (by decide)
  · exact h

/-- R40: a write beat of the Producer Path keeps the queue in form. -/
theorem State.producerBeat_noticed (h : NoticesInForm s.queue) (k : Nat) (data : Word) (full : Bool) (offset : Nat) :
    NoticesInForm (s.producerBeat i p k data full offset).queue := by
  have hdrain {u : State} (hu : NoticesInForm u.queue) (abandoned : Bool) :
      NoticesInForm (u.drainAfterAbandon i abandoned).queue := by
    unfold State.drainAfterAbandon
    split
    · exact State.drainTest_noticed hu i
    · exact hu
  unfold State.producerBeat
  dsimp only
  split
  · split_ifs
    · exact hdrain (State.losePlacement_noticed h _) _
    · exact State.producerFrameStart_noticed h k data
    · rwa [State.continueProducer_queue]
    · exact hdrain (State.earlyFrame_noticed h k data) _
    · exact hdrain (State.losePlacement_noticed h _) _
  · split_ifs
    · exact State.producerFrameStart_noticed (s := s.modProducer i _) h k data
    · exact h

/-- R98: the budget test offers EXTENDED, PRODUCED or nothing. -/
theorem State.budgetTest_noticed (h : NoticesInForm s.queue) (i : StreamId) :
    NoticesInForm (s.budgetTest i).queue := by
  unfold State.budgetTest
  dsimp only
  split
  · split
    · exact State.post_noticed h (by decide)
    · exact State.post_noticed (s := s.setProducerPhase i .done) h (by decide)
  · exact h

theorem State.commit_noticed (h : NoticesInForm s.queue) (i : StreamId) : NoticesInForm (s.commit i).queue := by
  have hcounted := State.budgetTest_noticed
    (s := ((s.modStream i Stream.commitOldest).spanCommit i).paceCount i .producer) h i
  rw [State.commit, State.commitReachesConsumer]
  split
  · rwa [State.releaseWaiting_queue]
  · exact State.decideDeferred_noticed hcounted i

/-- R103: the end test offers ENDED or nothing. -/
theorem State.endTest_noticed (h : NoticesInForm s.queue) (i : StreamId) : NoticesInForm (s.endTest i).queue := by
  unfold State.endTest
  dsimp only
  split
  · exact State.post_noticed (s := s.modStream i _) h (by decide)
  · exact h

theorem State.afterConsume_noticed (h : NoticesInForm s.queue) (i : StreamId) :
    NoticesInForm (s.afterConsume i).queue := by
  have hchosen : NoticesInForm ({ s with choices := s.choices + 1 } : State).queue := h
  unfold State.afterConsume
  dsimp only
  split_ifs
  · exact State.drainTest_noticed (State.decideDeferred_noticed hchosen i) i
  · exact State.drainTest_noticed hchosen i
  · exact State.decideDeferred_noticed h i
  · exact State.drainTest_noticed h i

theorem State.consume_noticed (h : NoticesInForm s.queue) (i : StreamId) : NoticesInForm (s.consume i).queue := by
  unfold State.consume
  split
  · exact h
  · dsimp only
    refine State.afterConsume_noticed (State.endTest_noticed ?_ i) i
    rw [State.roomEvent_queue, State.paceCount_queue]
    exact State.spanConsume_noticed (s := s.modStream i _) h _ _

/-! ### What is returned upstream (R23) -/

theorem State.realReturned_noticed (h : NoticesInForm s.queue) (b : Binding) (m : RealMark) (r : Response) :
    NoticesInForm (s.realReturned b m r).queue := by
  have hlast {u : State} (hu : NoticesInForm u.queue) :
      NoticesInForm (if m.last then u.consume b.stream else u).queue := by
    split
    · exact State.consume_noticed hu b.stream
    · exact hu
  have hfaulted : NoticesInForm (s.entryFaulted b.stream m).queue := by
    unfold State.entryFaulted
    split
    · exact State.memfault_noticed (s := s.modConsumer b.stream _) h _ _
    · exact h
  unfold State.realReturned
  split
  · dsimp only
    split
    · split
      · exact hlast (u := s.spanConsumerBeat b.stream r.data _) h
      · exact h
    · split
      · rw [State.realError_eq]
        exact hlast (u := (s.entryFaulted b.stream m).spanConsumerError b.stream _) hfaulted
      · exact State.memfault_noticed h _ _
  · exact h

theorem State.returnResponse_noticed (h : NoticesInForm s.queue) (x : ResponseSlot) (r : Response) :
    NoticesInForm (s.returnResponse p x r).queue := by
  unfold State.returnResponse
  dsimp only
  rw [State.modPort_queue]
  split
  · exact State.realReturned_noticed (s := s.modPort p _) h _ _ _
  · exact h

/-- R23: the return of what is due keeps the queue in form. -/
theorem State.settle_noticed (h : NoticesInForm s.queue) : NoticesInForm s.settle.queue := by
  have hdue (n : Nat) : NoticesInForm (State.returnDue n s).queue := by
    induction n generalizing s with
    | zero => exact h
    | succ n ih =>
      rw [State.returnDue]
      split
      · exact h
      · exact ih (State.returnResponse_noticed h _ _)
  exact hdue maxResponses

end Paths

end Sys2Proof.Machine

namespace Sys2Proof.Machine

open Sys2Proof Sys2Proof.Safety

/-! ## Commands and events keep the Notice Queue in form -/

section Commands

variable {s t : State} {i : StreamId} {p : PortId}

/-! ### Requests and beats (R31, R34) -/

/-- R31, R34: a class is taken with STRADDLE, with REFUSED or with no notice. -/
theorem State.assignClass_noticed (h : NoticesInForm s.queue) (cls : TransactionClass) (x : Transaction) :
    NoticesInForm (s.assignClass p cls x).queue := by
  have hnotice {u : State} (hu : NoticesInForm u.queue) :
      NoticesInForm (u.classificationNotice p x.addr cls).queue := by
    cases cls with
    | straddle => exact State.post_noticed hu (by decide)
    | observerRefuse b => exact State.post_noticed hu (by decide)
    | _ => exact hu
  have hclassified := hnotice (u := s.modTxn p fun x => { x with cls := some cls }) h
  unfold State.assignClass
  dsimp only
  split
  · rwa [State.forwardWhole, State.arbitrate_queue, State.modPort_queue]
  · exact hclassified

theorem State.acceptRequest_noticed (h : NoticesInForm s.queue) (dir : Dir) (addr : Word) (beats : Nat) :
    NoticesInForm (s.acceptRequest p dir addr beats).queue := by
  unfold State.acceptRequest
  dsimp only
  split
  · cases dir <;> rwa [State.modTxn_queue, State.modPort_queue]
  · cases dir with
    | read =>
      refine State.assignClass_noticed ?_ _ _
      rwa [State.modTxn_queue, State.modPort_queue]
    | write => rwa [State.modPort_queue]

theorem State.acceptWrite_noticed (h : NoticesInForm s.queue) (x : Transaction) (data : Word) (enables : BitVec 4) :
    NoticesInForm (s.acceptWrite p x data enables).queue := by
  have hdispose {u : State} (hu : NoticesInForm u.queue) (cls : TransactionClass) :
      NoticesInForm (u.disposeWrite p x cls data enables).queue := by
    unfold State.disposeWrite
    cases cls with
    | producer b =>
      dsimp only
      split_ifs
      · exact hu
      · exact State.producerBeat_noticed hu _ _ _ _
      · exact hu
    | _ => exact hu
  unfold State.acceptWrite
  dsimp only
  refine hdispose ?_ _
  rw [State.modTxn_queue]
  split
  · exact State.assignClass_noticed h _ x
  · exact h

theorem State.handRead_noticed (h : NoticesInForm s.queue) (x : Transaction) (b : Binding) :
    NoticesInForm (s.handRead p x b).queue := by
  unfold State.handRead
  dsimp only
  split
  · exact State.consumerBeat_noticed (s := s.modTxn p _) h _ _
  · exact h

/-- R66, R89: an expiry keeps the queue in form. -/
theorem State.takeExpiry_noticed (h : NoticesInForm s.queue) (x : Transaction) :
    NoticesInForm (s.takeExpiry p x).queue := by
  unfold State.takeExpiry
  split
  · split
    · exact State.beginOverrun_noticed (s := s.endHold p) h
    · exact h
  · split
    · rw [State.fillFrame_queue]
      exact State.beginUnderrun_noticed (s := s.endHold p) h
    · exact h
  · exact h

/-! ### The memory controller's results -/

theorem State.producerOkay_noticed (h : NoticesInForm s.queue) (i : StreamId) (beats : List SegmentBeat) :
    NoticesInForm (s.producerOkay i beats).queue := by
  have hbeat {u : State} (hu : NoticesInForm u.queue) (x : SegmentBeat) : NoticesInForm (u.beatOkay i x).queue := by
    unfold State.beatOkay
    dsimp only
    split
    · exact State.commit_noticed (s := u.modProducer i _) hu i
    · exact hu
  unfold State.producerOkay
  induction beats generalizing s with
  | nil => exact h
  | cons x beats ih => exact ih (hbeat h x)

/-- R53, R54: a failed producer segment offers MEMFAULT. -/
theorem State.producerError_noticed (h : NoticesInForm s.queue) (i : StreamId) (p : PortId)
    (beats : List SegmentBeat) : NoticesInForm (s.producerError i p beats).queue := by
  unfold State.producerError
  dsimp only
  split
  · refine State.drainTest_noticed ?_ i
    rw [State.roomEvent_queue, State.loseByError_queue]
    exact State.memfault_noticed (s := s.abandonProducer i p _) h _ _
  · split
    · exact State.memfault_noticed h _ _
    · exact h

/-- R139: the result of a write segment keeps the queue in form. -/
theorem State.writeResult_noticed (h : NoticesInForm s.queue) (g : Granted) (r : BusStatus) :
    NoticesInForm (s.writeResult g r).queue := by
  unfold State.writeResult
  dsimp only
  split
  · split
    · exact h
    · cases r with
      | okay => exact State.producerOkay_noticed (s := s.modTxn g.owner _) h _ _
      | error => exact State.producerError_noticed (s := s.modTxn g.owner _) h _ _ _
  · exact h

/-- R92: a failed HOLD read offers MEMFAULT; no other read result is a notice. -/
theorem State.readResult_noticed (h : NoticesInForm s.queue) (g : Granted) (x : SegmentBeat) (data : Word)
    (r : BusStatus) : NoticesInForm (s.readResult g x data r).queue := by
  have hhold (b : Binding) : NoticesInForm (s.holdResult g.owner x b data r).queue := by
    unfold State.holdResult
    split
    · exact h
    · dsimp only
      split
      · exact State.memfault_noticed (s := s.modTxn g.owner _) h _ _
      · exact h
  unfold State.readResult
  dsimp only
  split
  · exact h
  · split
    · exact hhold _
    · exact h
    · exact h

/-! ### The management commands -/

/-- R106: CLOSE DRAIN of an OPEN stream. -/
theorem State.beginDrain_noticed (h : NoticesInForm s.queue) (i : StreamId) :
    NoticesInForm (s.beginDrain i).queue := by
  have hreleased {u : State} (hu : NoticesInForm u.queue) : NoticesInForm (u.releaseByDrain i).queue := by
    unfold State.releaseByDrain
    dsimp only
    split
    · refine State.excessFrame_noticed ?_
      exact hu
    · exact hu
  refine State.settle_noticed (State.drainTest_noticed ?_ i)
  rw [State.paceDrop_queue]
  exact hreleased h

/-- R110: CLOSE ABORT offers ABORTED. -/
theorem State.abort_noticed (h : NoticesInForm s.queue) (i : StreamId) : NoticesInForm (s.abort i).queue :=
  State.settle_noticed (State.post_noticed h (by decide))

theorem State.openCommand_noticed (h : NoticesInForm s.queue) (target : Byte) (r : RawDescriptor) :
    NoticesInForm (State.openCommand target r s).1.queue := by
  unfold State.openCommand
  split
  · exact h
  · split <;> exact h

theorem State.closeDrainCommand_noticed (h : NoticesInForm s.queue) (target : Byte) :
    NoticesInForm (State.closeDrainCommand target s).1.queue := by
  unfold State.closeDrainCommand
  split
  · exact h
  · split
    · exact h
    · exact h
    · exact State.beginDrain_noticed h _
    · exact h

theorem State.closeAbortCommand_noticed (h : NoticesInForm s.queue) (target : Byte) :
    NoticesInForm (State.closeAbortCommand target s).1.queue := by
  unfold State.closeAbortCommand
  split
  · exact h
  · split
    · exact h
    · exact State.abort_noticed h _
    · exact State.abort_noticed h _
    · exact h

theorem State.extendCommand_noticed (h : NoticesInForm s.queue) (target : Byte) (frames : BitVec 24) :
    NoticesInForm (State.extendCommand target frames s).1.queue := by
  unfold State.extendCommand
  split
  · exact h
  · split <;> exact h

theorem State.acknowledgeProducerCommand_noticed (h : NoticesInForm s.queue) (target : Byte) :
    NoticesInForm (State.acknowledgeProducerCommand target s).1.queue := by
  unfold State.acknowledgeProducerCommand
  split
  · exact h
  · split_ifs <;> exact h

theorem State.acknowledgeConsumerCommand_noticed (h : NoticesInForm s.queue) (target : Byte) :
    NoticesInForm (State.acknowledgeConsumerCommand target s).1.queue := by
  unfold State.acknowledgeConsumerCommand
  split
  · exact h
  · split_ifs <;> exact h

theorem State.statusCommand_noticed (h : NoticesInForm s.queue) (target : Byte) :
    NoticesInForm (State.statusCommand target s).1.queue := by
  unfold State.statusCommand
  split <;> exact h

/-- R146: TAKE_NOTICE removes the head record or nothing. -/
theorem State.takeNoticeCommand_noticed (h : NoticesInForm s.queue) : NoticesInForm s.takeNoticeCommand.1.queue := by
  unfold State.takeNoticeCommand
  split
  · exact h
  · next hhead => exact noticesInForm_tail h hhead

theorem State.bindPaceCommand_noticed (h : NoticesInForm s.queue) (line stream side packet : Byte) :
    NoticesInForm (State.bindPaceCommand line stream side packet s).1.queue := by
  unfold State.bindPaceCommand
  split
  · split
    · exact h
    · split <;> exact h
  · exact h

theorem State.unbindPaceCommand_noticed (h : NoticesInForm s.queue) (line : Byte) :
    NoticesInForm (State.unbindPaceCommand line s).1.queue := by
  unfold State.unbindPaceCommand
  split
  · exact h
  · split <;> exact h

theorem State.setIntegrityCommand_noticed (h : NoticesInForm s.queue) (polynomial initial : Word) :
    NoticesInForm (State.setIntegrityCommand polynomial initial s).1.queue := by
  unfold State.setIntegrityCommand
  split_ifs <;> exact h

theorem State.setTimebaseCommand_noticed (h : NoticesInForm s.queue) (divider : Byte) :
    NoticesInForm (State.setTimebaseCommand divider s).1.queue := by
  unfold State.setTimebaseCommand
  split_ifs <;> exact h

/-! ### The management port (R151, R157) -/

/-- R157: the command of a complete frame keeps the queue in form. -/
theorem State.applyFrame_noticed (h : NoticesInForm s.queue) (frame : List Byte) :
    NoticesInForm (State.applyFrame frame s).1.queue := by
  unfold State.applyFrame
  split
  · exact State.openCommand_noticed h _ _
  · exact State.closeDrainCommand_noticed h _
  · exact State.closeAbortCommand_noticed h _
  · exact State.extendCommand_noticed h _ _
  · exact State.acknowledgeProducerCommand_noticed h _
  · exact State.acknowledgeConsumerCommand_noticed h _
  · exact State.statusCommand_noticed h _
  · exact State.takeNoticeCommand_noticed h
  · exact State.bindPaceCommand_noticed h _ _ _ _
  · exact State.unbindPaceCommand_noticed h _
  · exact State.setIntegrityCommand_noticed h _ _
  · exact h
  · exact State.setTimebaseCommand_noticed h _
  · exact h
  · exact h

/-- R152: a command row keeps the queue in form if its command does. -/
theorem row_noticed {command : State → State × Answer} {frame : List Byte} (h : NoticesInForm s.queue)
    (ht : Host.Outcome.next (φ := Fault) (ρ := Refusal) (s.frameRow frame command) = .next t)
    (hcommand : ∀ u : State, NoticesInForm u.queue → NoticesInForm (command u).1.queue) : NoticesInForm t.queue := by
  obtain rfl := Host.Outcome.next.inj ht
  unfold State.frameRow
  split
  · exact hcommand (s.modSpi _) h
  · exact h

/-- R151: a rising edge of SCK is a bit, a byte or a complete frame. -/
theorem State.sckRising_noticed (h : NoticesInForm s.queue) (mosi : Bool) :
    NoticesInForm (s.sckRising mosi).queue := by
  have hbyte (b : Byte) : NoticesInForm (s.receiveByte b).queue := by
    unfold State.receiveByte
    dsimp only
    split
    · exact h
    · exact h
    · split
      · exact State.applyFrame_noticed (s := s.modSpi _) h _
      · exact h
    · exact h
    · exact h
  unfold State.sckRising
  dsimp only
  split
  · exact hbyte _
  · exact h

/-! ### Resets (R149, R150) -/

/-- R149: a reset empties the queue. -/
theorem State.resetBlocks_noticed (s : State) : NoticesInForm s.resetBlocks.queue := noticesInForm_reset

/-- R150: the soft reset offers STARTED to the emptied queue. -/
theorem State.softReset_noticed (s : State) : NoticesInForm s.softReset.queue :=
  State.settle_noticed (State.post_noticed s.resetBlocks_noticed (by decide))

/-! ### The events at the pins and the buses -/

theorem execPowerOnReset_noticed (h : NoticesInForm s.queue) (ht : execPowerOnReset s = .next t) :
    NoticesInForm t.queue := by
  obtain rfl := Host.Outcome.next.inj ht
  split
  · exact State.settle_noticed s.resetBlocks_noticed
  · exact h

/-- R150: PORn rises and STARTED is offered. -/
theorem execPowerOnResetEnd_noticed (h : NoticesInForm s.queue) (ht : execPowerOnResetEnd s = .next t) :
    NoticesInForm t.queue := by
  obtain rfl := Host.Outcome.next.inj ht
  split
  · exact h
  · exact State.post_noticed h (by decide)

theorem execCsnFall_noticed (h : NoticesInForm s.queue) (ht : execCsnFall s = .next t) : NoticesInForm t.queue := by
  obtain rfl := Host.Outcome.next.inj ht
  split
  · split <;> exact h
  · exact h

theorem execCsnRise_noticed (h : NoticesInForm s.queue) (ht : execCsnRise s = .next t) : NoticesInForm t.queue := by
  obtain rfl := Host.Outcome.next.inj ht
  split
  · exact h
  · split
    · dsimp only
      split
      · exact State.softReset_noticed _
      · exact h
    · exact h

theorem execUnknown_noticed {code : Byte} (h : NoticesInForm s.queue) (ht : execUnknown code s = .next t) :
    NoticesInForm t.queue := by
  obtain rfl := Host.Outcome.next.inj ht
  split <;> exact h

theorem execSckEdge_noticed {edge : SckEdge} (h : NoticesInForm s.queue) (ht : execSckEdge edge s = .next t) :
    NoticesInForm t.queue := by
  obtain rfl := Host.Outcome.next.inj ht
  split
  · cases edge with
    | rising mosi => exact State.sckRising_noticed h mosi
    | falling => exact h
  · exact h

theorem execMicrosecondTick_noticed (h : NoticesInForm s.queue) (ht : execMicrosecondTick s = .next t) :
    NoticesInForm t.queue := by
  obtain rfl := Host.Outcome.next.inj ht
  split <;> exact h

theorem execHoldTimerExpiry_noticed (h : NoticesInForm s.queue) (ht : execHoldTimerExpiry p s = .next t) :
    NoticesInForm t.queue := by
  obtain rfl := Host.Outcome.next.inj ht
  split
  · split
    · split
      · exact State.settle_noticed (State.takeExpiry_noticed h _)
      · exact h
    · exact h
  · exact h

theorem execRequestTaken_noticed {dir : Dir} {addr : Word} {beats : Nat} (h : NoticesInForm s.queue)
    (ht : execRequestTaken p dir addr beats s = .next t) : NoticesInForm t.queue := by
  obtain rfl := Host.Outcome.next.inj ht
  split
  · exact State.settle_noticed (State.acceptRequest_noticed h dir addr beats)
  · exact h

theorem execWriteBeat_noticed {data : Word} {enables : BitVec 4} (h : NoticesInForm s.queue)
    (ht : execWriteBeat p data enables s = .next t) : NoticesInForm t.queue := by
  obtain rfl := Host.Outcome.next.inj ht
  split
  · split
    · exact State.settle_noticed (State.acceptWrite_noticed h _ data enables)
    · exact h
  · exact h

theorem execReadBeat_noticed (h : NoticesInForm s.queue) (ht : execReadBeat p s = .next t) :
    NoticesInForm t.queue := by
  obtain rfl := Host.Outcome.next.inj ht
  split
  · split
    · split
      · exact State.settle_noticed (State.handRead_noticed h _ _)
      · exact h
    · exact h
  · exact h

theorem execMemoryWriteCompletion_noticed {r : BusStatus} (h : NoticesInForm s.queue)
    (ht : execMemoryWriteCompletion r s = .next t) : NoticesInForm t.queue := by
  obtain rfl := Host.Outcome.next.inj ht
  split
  · split
    · rw [State.freeMemory_queue]
      exact State.settle_noticed (State.writeResult_noticed h _ r)
    · exact h
  · exact h

theorem execMemoryReadData_noticed {data : Word} {r : BusStatus} (h : NoticesInForm s.queue)
    (ht : execMemoryReadData data r s = .next t) : NoticesInForm t.queue := by
  obtain rfl := Host.Outcome.next.inj ht
  split
  · split
    · split
      · rw [State.endReadSegment_queue]
        exact State.settle_noticed (State.readResult_noticed (by exact h) _ _ _ _)
      · exact h
    · exact h
  · exact h

/-! ### Every command and every step -/

/-- Each command keeps the queue in form. -/
theorem exec_noticed (h : NoticesInForm s.queue) (c : Instr) (ht : exec c s = .next t) : NoticesInForm t.queue := by
  cases c with
  | powerOnReset => exact execPowerOnReset_noticed h ht
  | powerOnResetEnd => exact execPowerOnResetEnd_noticed h ht
  | csnFall => exact execCsnFall_noticed h ht
  | csnRise => exact execCsnRise_noticed h ht
  | openStream target r => exact row_noticed h ht fun _ hu => State.openCommand_noticed hu target r
  | closeDrain target => exact row_noticed h ht fun _ hu => State.closeDrainCommand_noticed hu target
  | closeAbort target => exact row_noticed h ht fun _ hu => State.closeAbortCommand_noticed hu target
  | extend target frames => exact row_noticed h ht fun _ hu => State.extendCommand_noticed hu target frames
  | acknowledgeProducer target =>
    exact row_noticed h ht fun _ hu => State.acknowledgeProducerCommand_noticed hu target
  | acknowledgeConsumer target =>
    exact row_noticed h ht fun _ hu => State.acknowledgeConsumerCommand_noticed hu target
  | status target => exact row_noticed h ht fun _ hu => State.statusCommand_noticed hu target
  | takeNotice _ => exact row_noticed h ht fun _ hu => State.takeNoticeCommand_noticed hu
  | bindPace line stream side packet =>
    exact row_noticed h ht fun _ hu => State.bindPaceCommand_noticed hu line stream side packet
  | unbindPace line => exact row_noticed h ht fun _ hu => State.unbindPaceCommand_noticed hu line
  | setIntegrity _ polynomial initial =>
    exact row_noticed h ht fun _ hu => State.setIntegrityCommand_noticed hu polynomial initial
  | setAlertMask _ _ => exact row_noticed h ht fun _ hu => hu
  | setTimebase _ divider => exact row_noticed h ht fun _ hu => State.setTimebaseCommand_noticed hu divider
  | reset _ => exact row_noticed h ht fun _ hu => hu
  | unknown _ => exact execUnknown_noticed h ht
  | requestTaken _ _ _ _ => exact execRequestTaken_noticed h ht
  | writeBeat _ _ _ => exact execWriteBeat_noticed h ht
  | readBeat _ => exact execReadBeat_noticed h ht
  | microsecondTick => exact execMicrosecondTick_noticed h ht
  | holdTimerExpiry _ => exact execHoldTimerExpiry_noticed h ht
  | memoryWriteCompletion _ => exact execMemoryWriteCompletion_noticed h ht
  | memoryReadData _ _ => exact execMemoryReadData_noticed h ht
  | sckEdge _ => exact execSckEdge_noticed h ht

/-- Settles O53: a notice offered, the head record taken and a reset leave the queue in form, and no operation changes its
records or its counter otherwise. -/
theorem everyStepKeepsTheNoticeAccount : Obligations.EveryStepKeepsTheNoticeAccount := by
  intro s t h ht
  unfold step at ht
  split at ht
  · obtain rfl := Host.Outcome.next.inj ht
    rwa [State.refclk_queue]
  · next c rest _ => exact exec_noticed (s := { s with pending := rest }) h c ht

end Commands

end Sys2Proof.Machine

namespace Sys2Proof.Machine

open Sys2Proof Sys2Proof.Safety

/-! ## What requests, beats, memory results and expiries leave (R151, R159) -/

section Quiet

variable (s : State) (p : PortId)

theorem State.classificationNotice_quiet (addr : Word) (cls : TransactionClass) :
    (s.classificationNotice p addr cls).quiet = s.quiet := by
  cases cls <;> rfl

/-- R28: a class taken, with its notice and its segment. -/
theorem State.assignClass_quiet (cls : TransactionClass) (t : Transaction) :
    (s.assignClass p cls t).quiet = s.quiet := by
  unfold State.assignClass
  dsimp only
  split
  · rw [State.forwardWhole_quiet, State.classificationNotice_quiet, State.modTxn_quiet]
  · rw [State.classificationNotice_quiet, State.modTxn_quiet]

/-- R21: a request taken. -/
theorem State.acceptRequest_quiet (dir : Dir) (addr : Word) (beats : Nat) :
    (s.acceptRequest p dir addr beats).quiet = s.quiet := by
  unfold State.acceptRequest
  dsimp only
  split
  · cases dir <;> simp
  · cases dir
    · simp [State.assignClass_quiet]
    · simp

/-- R22: a write beat accepted. -/
theorem State.acceptWrite_quiet (t : Transaction) (data : Word) (enables : BitVec 4) :
    (s.acceptWrite p t data enables).quiet = s.quiet := by
  have hclassified (cls : TransactionClass) :
      (if t.cls.isNone then s.assignClass p cls t else s).quiet = s.quiet := by
    split
    · exact s.assignClass_quiet p cls t
    · rfl
  have hdisposed (u : State) (cls : TransactionClass) : (u.disposeWrite p t cls data enables).quiet = u.quiet := by
    cases cls with
    | producer b =>
      dsimp only [State.disposeWrite]
      split_ifs
      · rfl
      · exact State.producerBeat_quiet ..
      · rfl
    | _ => rfl
  exact (hdisposed _ _).trans (hclassified _)

/-- R77: a read beat handed. -/
theorem State.handRead_quiet (t : Transaction) (b : Binding) : (s.handRead p t b).quiet = s.quiet := by
  unfold State.handRead
  dsimp only
  split
  · simp
  · rfl

/-- R26: an expiry taken. -/
theorem State.takeExpiry_quiet (t : Transaction) : (s.takeExpiry p t).quiet = s.quiet := by
  unfold State.takeExpiry
  split
  · split <;> rfl
  · split
    · simp
    · rfl
  · rfl

theorem State.producerError_quiet (i : StreamId) (beats : List SegmentBeat) :
    (s.producerError i p beats).quiet = s.quiet := by
  have hlose (u : State) (filling : Bool) : (u.loseByError i filling).quiet = u.quiet := by
    unfold State.loseByError
    split <;> rfl
  unfold State.producerError
  dsimp only
  split
  · simp [hlose]
  · split <;> rfl

/-- R139: the result of a write segment applied. -/
theorem State.writeResult_quiet (g : Granted) (r : BusStatus) : (s.writeResult g r).quiet = s.quiet := by
  unfold State.writeResult
  dsimp only
  split
  · split
    · rfl
    · cases r with
      | okay => simp
      | error => simp [State.producerError_quiet]
  · rfl

/-- R139: the data of a read beat taken. -/
theorem State.readResult_quiet (g : Granted) (x : SegmentBeat) (data : Word) (r : BusStatus) :
    (s.readResult g x data r).quiet = s.quiet := by
  have hhold (b : Binding) : (s.holdResult g.owner x b data r).quiet = s.quiet := by
    unfold State.holdResult
    split
    · rfl
    · dsimp only
      split <;> rfl
  unfold State.readResult
  dsimp only
  split
  · rfl
  · split
    · exact hhold _
    · rfl
    · rfl

theorem State.endReadSegment_quiet (g : Granted) : (s.endReadSegment g).quiet = s.quiet := by
  unfold State.endReadSegment
  split
  · rfl
  · exact s.freeMemory_quiet

/-! ### The events at the buses -/

section Events

variable {s : State} {t : State} {p : PortId}

theorem execRequestTaken_quiet {dir : Dir} {addr : Word} {beats : Nat}
    (ht : execRequestTaken p dir addr beats s = .next t) : t.quiet = s.quiet := by
  obtain rfl := Host.Outcome.next.inj ht
  split
  · rw [State.settle_quiet, State.acceptRequest_quiet]
  · rfl

theorem execWriteBeat_quiet {data : Word} {enables : BitVec 4} (ht : execWriteBeat p data enables s = .next t) :
    t.quiet = s.quiet := by
  obtain rfl := Host.Outcome.next.inj ht
  split
  · split
    · rw [State.settle_quiet, State.acceptWrite_quiet]
    · rfl
  · rfl

theorem execReadBeat_quiet (ht : execReadBeat p s = .next t) : t.quiet = s.quiet := by
  obtain rfl := Host.Outcome.next.inj ht
  split
  · split
    · split
      · rw [State.settle_quiet, State.handRead_quiet]
      · rfl
    · rfl
  · rfl

theorem execHoldTimerExpiry_quiet (ht : execHoldTimerExpiry p s = .next t) : t.quiet = s.quiet := by
  obtain rfl := Host.Outcome.next.inj ht
  split
  · split
    · split
      · rw [State.settle_quiet, State.takeExpiry_quiet]
      · rfl
    · rfl
  · rfl

theorem execMemoryWriteCompletion_quiet {r : BusStatus} (ht : execMemoryWriteCompletion r s = .next t) :
    t.quiet = s.quiet := by
  obtain rfl := Host.Outcome.next.inj ht
  split
  · split
    · rw [State.freeMemory_quiet, State.settle_quiet, State.writeResult_quiet]
    · rfl
  · rfl

theorem execMemoryReadData_quiet {data : Word} {r : BusStatus} (ht : execMemoryReadData data r s = .next t) :
    t.quiet = s.quiet := by
  obtain rfl := Host.Outcome.next.inj ht
  split
  · split
    · split
      · dsimp only
        rw [State.endReadSegment_quiet, State.settle_quiet, State.readResult_quiet]
        rfl
      · rfl
    · rfl
  · rfl

end Events

/-! ### The commands of CLOSE (R106, R110) -/

theorem State.beginDrain_quiet (i : StreamId) : (s.beginDrain i).quiet = s.quiet := by
  have hrelease (u : State) : (u.releaseByDrain i).quiet = u.quiet := by
    unfold State.releaseByDrain
    dsimp only
    split
    · simp
    · rfl
  simp [State.beginDrain, hrelease]

theorem State.abort_quiet (i : StreamId) : (s.abort i).quiet = s.quiet := by
  rw [State.abort_eq_settle, State.settle_quiet]
  rfl

end Quiet

/-! ## The command of a row (R152, R157) -/

section Rows

variable {s : State} {c : Instr} {frame : List Byte}

/-- R157: the checks, the effect and the answer of a command row; of any other command, nothing and RANGE. -/
def commandOf : Instr → State → State × Answer
  | .openStream target r => State.openCommand target r
  | .closeDrain target => State.closeDrainCommand target
  | .closeAbort target => State.closeAbortCommand target
  | .extend target frames => State.extendCommand target frames
  | .acknowledgeProducer target => State.acknowledgeProducerCommand target
  | .acknowledgeConsumer target => State.acknowledgeConsumerCommand target
  | .status target => State.statusCommand target
  | .takeNotice _ => State.takeNoticeCommand
  | .bindPace line stream side packet => State.bindPaceCommand line stream side packet
  | .unbindPace line => State.unbindPaceCommand line
  | .setIntegrity _ polynomial initial => State.setIntegrityCommand polynomial initial
  | .setAlertMask _ mask => State.setAlertMaskCommand mask
  | .setTimebase _ divider => State.setTimebaseCommand divider
  | .reset _ => State.resetCommand
  | _ => fun s => (s, Answer.plain .range)

/-- R152: a command row is its frame with its command. -/
theorem exec_of_frame (hframe : c.frame = some frame) (s : State) :
    exec c s = .next (s.frameRow frame (commandOf c)) := by
  cases c <;> cases hframe <;> rfl

/-- R157: a complete frame has the command of the row it decodes to. -/
theorem State.applyFrame_of_decoded
    (hdecoded : decodeFrame (frame.getD 0 0#8) (frame.getD 1 0#8) (frame.drop 2) = some c) :
    State.applyFrame frame = commandOf c := by
  funext s
  rw [State.applyFrame, hdecoded]
  cases c <;> rfl

/-- R72, R105: a complete frame that decodes to no row answers RANGE. -/
theorem State.applyFrame_of_undecoded
    (hnone : decodeFrame (frame.getD 0 0#8) (frame.getD 1 0#8) (frame.drop 2) = none) :
    State.applyFrame frame = fun s => (s, Answer.plain .range) := by
  funext s
  rw [State.applyFrame, hnone]

end Rows

/-! ## The management port and the timebase in form (R151, R159, R161) -/

section Pins

variable {s t : State} {f : Management → Management} {command : State → State × Answer} {frame : List Byte}

/-- What leaves the management port, the timebase and the pins leaves them in form. -/
theorem pinsInForm_of_quiet (h : PinsInForm s) (hquiet : t.quiet = s.quiet) : PinsInForm t := by
  simp only [State.quiet, Prod.mk.injEq] at hquiet
  obtain ⟨-, hspi, htimebase, hpor, hcs, -⟩ := hquiet
  rwa [PinsInForm, hspi, htimebase, hpor, hcs]

/-- R151: the pins are in form, and the port has joined a transaction. -/
def State.Engaged (s : State) : Prop := PinsInForm s ∧ s.spi.phase ≠ .idle

theorem State.engaged_of_quiet (h : s.Engaged) (hquiet : t.quiet = s.quiet) : t.Engaged := by
  refine ⟨pinsInForm_of_quiet h.1 hquiet, ?_⟩
  simp only [State.quiet, Prod.mk.injEq] at hquiet
  rw [hquiet.2.1]
  exact h.2

/-- R151: within a transaction the port may change to any phase but IDLE, with less than a byte in progress. -/
theorem State.Engaged.modSpi (h : s.Engaged) (hphase : (f s.spi).phase ≠ .idle) (hcount : (f s.spi).bitCount ≤ 7) :
    (s.modSpi f).Engaged := by
  obtain ⟨⟨hselected, -, -, htimebase⟩, hengaged⟩ := h
  exact ⟨⟨fun hoff => absurd (hselected hoff) hengaged, fun hidle => absurd hidle hphase, hcount, htimebase⟩, hphase⟩

/-! ### Commands -/

/-- R159: SET_TIMEBASE takes no divider outside 1 to 64. -/
theorem State.setTimebaseCommand_engaged (h : s.Engaged) (divider : Byte) :
    (State.setTimebaseCommand divider s).1.Engaged := by
  unfold State.setTimebaseCommand
  split
  · exact h
  · next hrange =>
    obtain ⟨⟨hselected, hidle, hcount, hdivider, -, hbelow⟩, hengaged⟩ := h
    have hnext : 1 ≤ divider.toNat ∧ divider.toNat ≤ 64 := by omega
    exact ⟨⟨hselected, hidle, hcount, hdivider, hnext, hbelow⟩, hengaged⟩

/-- R157: the command of each row leaves the transaction going on, with the pins in form. -/
theorem commandOf_engaged (h : s.Engaged) (c : Instr) : (commandOf c s).1.Engaged := by
  cases c with
  | openStream target r =>
    dsimp only [commandOf, State.openCommand]
    split
    · exact h
    · split
      · exact h
      · exact State.engaged_of_quiet h rfl
  | closeDrain target =>
    dsimp only [commandOf, State.closeDrainCommand]
    split
    · exact h
    · split
      · exact h
      · exact h
      · exact State.engaged_of_quiet h (State.beginDrain_quiet ..)
      · exact State.engaged_of_quiet h rfl
  | closeAbort target =>
    dsimp only [commandOf, State.closeAbortCommand]
    split
    · exact h
    · split
      · exact h
      · exact State.engaged_of_quiet h (State.abort_quiet ..)
      · exact State.engaged_of_quiet h (State.abort_quiet ..)
      · exact State.engaged_of_quiet h rfl
  | extend target frames =>
    dsimp only [commandOf, State.extendCommand]
    split
    · exact h
    · split
      · exact h
      · exact State.engaged_of_quiet h rfl
  | acknowledgeProducer target =>
    dsimp only [commandOf, State.acknowledgeProducerCommand]
    split
    · exact h
    · split_ifs
      · exact h
      · exact State.engaged_of_quiet h rfl
      · exact h
  | acknowledgeConsumer target =>
    dsimp only [commandOf, State.acknowledgeConsumerCommand]
    split
    · exact h
    · split_ifs
      · exact h
      · exact State.engaged_of_quiet h rfl
      · exact h
  | status target =>
    dsimp only [commandOf, State.statusCommand]
    split <;> exact h
  | takeNotice _ =>
    dsimp only [commandOf, State.takeNoticeCommand]
    split
    · exact h
    · exact State.engaged_of_quiet h rfl
  | bindPace line stream side packet =>
    dsimp only [commandOf, State.bindPaceCommand]
    split
    · split
      · exact h
      · split
        · exact h
        · exact State.engaged_of_quiet h rfl
    · exact h
  | unbindPace line =>
    dsimp only [commandOf, State.unbindPaceCommand]
    split
    · exact h
    · split
      · exact h
      · exact State.engaged_of_quiet h rfl
  | setIntegrity _ polynomial initial =>
    dsimp only [commandOf, State.setIntegrityCommand]
    split_ifs <;> exact h
  | setTimebase _ divider => exact State.setTimebaseCommand_engaged h divider
  | reset _ => exact h.modSpi h.2 h.1.2.2.1
  | _ => exact h

/-- R152: a complete frame leaves the port in RESULT. -/
theorem State.Engaged.completeFrame (h : s.Engaged) (hcommand : ∀ u : State, u.Engaged → (command u).1.Engaged)
    (frame : List Byte) : (s.completeFrame frame command).Engaged := by
  have hanswered := hcommand _ (h.modSpi (f := fun m =>
    { m with frame := frame, truncated := false, bitCount := 0, shiftIn := 0#8, miso := some false }) h.2
    (Nat.zero_le 7))
  have ⟨⟨_, _, hcount, _⟩, _⟩ := hanswered
  exact hanswered.modSpi nofun hcount

/-- R151: the port awaits a frame in SUMMARY and FRAME only. -/
theorem Management.engaged_of_awaits {m : Management} (h : m.awaits frame = true) : m.phase ≠ .idle := by
  intro hidle
  simp [Management.awaits, hidle] at h

theorem State.frameRow_pinsInForm (h : PinsInForm s) (hcommand : ∀ u : State, u.Engaged → (command u).1.Engaged)
    (frame : List Byte) : PinsInForm (s.frameRow frame command) := by
  unfold State.frameRow
  split
  · next hreceiving =>
    have hengaged := Management.engaged_of_awaits (Bool.and_eq_true_iff.mp hreceiving).2
    exact (State.Engaged.completeFrame ⟨h, hengaged⟩ hcommand frame).1
  · exact h

/-! ### Edges of SCK (R151) -/

theorem Management.receiveCode_phase (m : Management) (code : Byte) : (m.receiveCode code).phase ≠ .idle := by
  unfold Management.receiveCode
  dsimp only
  split <;> simp

/-- R151: a byte received leaves the transaction going on. -/
theorem State.Engaged.receiveByte (h : s.Engaged) (b : Byte) : (s.receiveByte b).Engaged := by
  have happly (frame : List Byte) (u : State) (hu : u.Engaged) : (State.applyFrame frame u).1.Engaged := by
    cases hdecoded : decodeFrame (frame.getD 0 0#8) (frame.getD 1 0#8) (frame.drop 2) with
    | none => rwa [State.applyFrame_of_undecoded hdecoded]
    | some c => rw [State.applyFrame_of_decoded hdecoded]; exact commandOf_engaged hu c
  unfold State.receiveByte
  dsimp only
  split
  · exact h
  · exact h.modSpi (Management.receiveCode_phase _ _) (Nat.zero_le 7)
  · split
    · exact h.completeFrame (happly _) _
    · exact h.modSpi h.2 (Nat.zero_le 7)
  · exact h.modSpi h.2 (Nat.zero_le 7)
  · exact h.modSpi h.2 (Nat.zero_le 7)

theorem execSckEdge_pinsInForm {edge : SckEdge} (h : PinsInForm s) (ht : execSckEdge edge s = .next t) :
    PinsInForm t := by
  obtain rfl := Host.Outcome.next.inj ht
  have ⟨_, _, hcount, _⟩ := h
  split
  · next hselected =>
    have hengaged : s.Engaged := ⟨h, by simpa using (Bool.and_eq_true_iff.mp hselected).2⟩
    cases edge with
    | rising mosi =>
      dsimp only [State.sckRising]
      split
      · exact (hengaged.receiveByte _).1
      · next hbits => exact (hengaged.modSpi (f := fun m => { m with bitCount := m.bitCount + 1, shiftIn := _ })
          hengaged.2 (by dsimp only; omega)).1
    | falling =>
      exact (hengaged.modSpi (f := fun m => { m with miso := some (m.outByte.getLsbD (7 - m.bitCount)) })
        hengaged.2 hcount).1
  · exact h

theorem execUnknown_pinsInForm {code : Byte} (h : PinsInForm s) (ht : execUnknown code s = .next t) :
    PinsInForm t := by
  obtain rfl := Host.Outcome.next.inj ht
  split
  · next hreceiving =>
    simp only [Bool.and_eq_true] at hreceiving
    have hengaged : s.Engaged := ⟨h, Management.engaged_of_awaits hreceiving.1.2⟩
    exact (hengaged.modSpi (Management.receiveCode_phase _ _) (Nat.zero_le 7)).1
  · exact h

/-! ### Ticks (R159) -/

/-- R159: the next interval counts from 0 to the divider set last. -/
theorem State.takeTick_pinsInForm (h : PinsInForm s) : PinsInForm s.takeTick := by
  obtain ⟨hselected, hidle, hcount, -, hnext, -⟩ := h
  exact ⟨hselected, hidle, hcount, hnext, hnext, hnext.1⟩

/-- R159: a REFCLK period counts below the divider, or ends the interval. -/
theorem State.refclk_pinsInForm (h : PinsInForm s) : PinsInForm s.refclk := by
  unfold State.refclk
  split_ifs with hpor hbelow
  · obtain ⟨hselected, hidle, hcount, hdivider, hnext, -⟩ := h
    exact ⟨hselected, hidle, hcount, hdivider, hnext, hbelow⟩
  · exact State.takeTick_pinsInForm h
  · exact h

theorem execMicrosecondTick_pinsInForm (h : PinsInForm s) (ht : execMicrosecondTick s = .next t) : PinsInForm t := by
  obtain rfl := Host.Outcome.next.inj ht
  split
  · exact State.takeTick_pinsInForm h
  · exact h

/-! ### The pins PORn and CSn (R153, R154, R161) -/

theorem Timebase.reset_inForm :
    (1 ≤ Timebase.reset.divider ∧ Timebase.reset.divider ≤ 64)
      ∧ (1 ≤ Timebase.reset.nextDivider ∧ Timebase.reset.nextDivider ≤ 64)
      ∧ Timebase.reset.count < Timebase.reset.divider := by decide

/-- R161: power-on reset leaves the port IDLE. -/
theorem execPowerOnReset_pinsInForm (h : PinsInForm s) (ht : execPowerOnReset s = .next t) : PinsInForm t := by
  obtain rfl := Host.Outcome.next.inj ht
  split
  · have hreset : PinsInForm { s.resetBlocks with porHigh := false, spi := Management.reset } :=
      ⟨fun _ => rfl, fun _ => ⟨rfl, rfl⟩, Nat.zero_le 7, Timebase.reset_inForm⟩
    exact pinsInForm_of_quiet hreset (State.settle_quiet _)
  · exact h

/-- R161: when PORn rises, the port is still IDLE. -/
theorem execPowerOnResetEnd_pinsInForm (h : PinsInForm s) (ht : execPowerOnResetEnd s = .next t) : PinsInForm t := by
  obtain rfl := Host.Outcome.next.inj ht
  split
  · exact h
  · next hlow =>
    obtain ⟨hoff, hrest⟩ := h
    exact ⟨fun _ => hoff (.inl (Bool.eq_false_iff.mpr hlow)), hrest⟩

/-- R153: CSn falls: the port is in SUMMARY with PORn high, and still IDLE with PORn low. -/
theorem execCsnFall_pinsInForm (h : PinsInForm s) (ht : execCsnFall s = .next t) : PinsInForm t := by
  obtain rfl := Host.Outcome.next.inj ht
  split
  · obtain ⟨hoff, hidle, hcount, htimebase⟩ := h
    split
    · next hcs hpor =>
      exact ⟨fun hoff => absurd hoff (by simp [State.beginTransaction, hpor]), nofun, Nat.zero_le 7, htimebase⟩
    · next hcs hpor => exact ⟨fun _ => hoff (.inr hcs), hidle, hcount, htimebase⟩
  · exact h

/-- R154, R160: CSn rises: the port is IDLE, after a soft reset too. -/
theorem execCsnRise_pinsInForm (h : PinsInForm s) (ht : execCsnRise s = .next t) : PinsInForm t := by
  obtain rfl := Host.Outcome.next.inj ht
  obtain ⟨hoff, hidle, hcount, htimebase⟩ := id h
  split
  · exact h
  · split
    · dsimp only
      split
      · have hreset : PinsInForm
            (({ s with csHigh := true }.modSpi Management.endTransaction).resetBlocks.postStarted 2#32) :=
          ⟨fun _ => rfl, fun _ => ⟨rfl, rfl⟩, Nat.zero_le 7, Timebase.reset_inForm⟩
        exact pinsInForm_of_quiet hreset (State.settle_quiet _)
      · exact ⟨fun _ => rfl, fun _ => ⟨rfl, rfl⟩, Nat.zero_le 7, htimebase⟩
    · next hpor => exact ⟨fun _ => hoff (.inl (Bool.eq_false_iff.mpr hpor)), hidle, hcount, htimebase⟩

/-! ### Every command and every step -/

/-- R151, R159, R161: each command keeps the management port and the timebase in form. -/
theorem exec_pinsInForm (h : PinsInForm s) (c : Instr) (ht : exec c s = .next t) : PinsInForm t := by
  cases hframe : c.frame with
  | some frame =>
    obtain rfl := Host.Outcome.next.inj ((exec_of_frame hframe s).symm.trans ht)
    exact State.frameRow_pinsInForm h (fun _ hu => commandOf_engaged hu c) frame
  | none =>
    cases c with
    | powerOnReset => exact execPowerOnReset_pinsInForm h ht
    | powerOnResetEnd => exact execPowerOnResetEnd_pinsInForm h ht
    | csnFall => exact execCsnFall_pinsInForm h ht
    | csnRise => exact execCsnRise_pinsInForm h ht
    | unknown code => exact execUnknown_pinsInForm h ht
    | sckEdge edge => exact execSckEdge_pinsInForm h ht
    | microsecondTick => exact execMicrosecondTick_pinsInForm h ht
    | requestTaken p dir addr beats => exact pinsInForm_of_quiet h (execRequestTaken_quiet ht)
    | writeBeat p data enables => exact pinsInForm_of_quiet h (execWriteBeat_quiet ht)
    | readBeat p => exact pinsInForm_of_quiet h (execReadBeat_quiet ht)
    | holdTimerExpiry p => exact pinsInForm_of_quiet h (execHoldTimerExpiry_quiet ht)
    | memoryWriteCompletion r => exact pinsInForm_of_quiet h (execMemoryWriteCompletion_quiet ht)
    | memoryReadData data r => exact pinsInForm_of_quiet h (execMemoryReadData_quiet ht)
    | _ => nomatch hframe

/-- Settles O59: requests, beats, memory results and expiries leave the port, the timebase and the pins; a command, an
edge, a tick and a reset each keep their form. -/
theorem everyStepKeepsThePinsInForm : Obligations.EveryStepKeepsThePinsInForm := by
  intro s t h ht
  unfold step at ht
  split at ht
  · obtain rfl := Host.Outcome.next.inj ht
    exact State.refclk_pinsInForm h
  · next c rest _ => exact exec_pinsInForm (s := { s with pending := rest }) h c ht

end Pins

end Sys2Proof.Machine

namespace Sys2Proof.Machine

open Sys2Proof Sys2Proof.Safety

/-! ## The bytes of a layout and its fields (R156) -/

section Layouts

variable {bytes : List Byte} {offset n w : Nat}

theorem beNat_lt (bytes : List Byte) : beNat bytes < 256 ^ bytes.length := by
  induction bytes with
  | nil => exact Nat.one_pos
  | cons b bytes ih =>
    have hb : b.toNat + 1 ≤ 256 := b.isLt
    rw [beNat_cons, List.length_cons, pow_succ']
    calc b.toNat * 256 ^ bytes.length + beNat bytes < (b.toNat + 1) * 256 ^ bytes.length := by rw [add_one_mul]; omega
      _ ≤ 256 * 256 ^ bytes.length := Nat.mul_le_mul_right _ hb

/-- The last n bytes of a number do not depend on what stands above them. -/
theorem beBytes_mul_add (n k v : Nat) : beBytes n (k * 256 ^ n + v) = beBytes n v := by
  induction n generalizing k with
  | zero => rfl
  | succ n ih =>
    have hpow : 2 ^ (8 * n) = 256 ^ n := pow_mul 2 8 n
    have hbyte : BitVec.ofNat 8 ((k * 256 ^ (n + 1) + v) >>> (8 * n)) = BitVec.ofNat 8 (v >>> (8 * n)) := by
      apply BitVec.eq_of_toNat_eq
      rw [BitVec.toNat_ofNat, BitVec.toNat_ofNat, Nat.shiftRight_eq_div_pow, Nat.shiftRight_eq_div_pow, hpow, pow_succ',
        ← mul_assoc, add_comm, Nat.add_mul_div_right _ _ (by positivity), Nat.add_mul_mod_self_right]
    have hrest : k * 256 ^ (n + 1) = (k * 256) * 256 ^ n := by rw [pow_succ', mul_assoc]
    rw [beBytes, beBytes, hbyte, hrest, ih]

/-- R156: bytes are the bytes of the value they carry. -/
theorem beBytes_beNat (bytes : List Byte) : beBytes bytes.length (beNat bytes) = bytes := by
  induction bytes with
  | nil => rfl
  | cons b bytes ih =>
    have hpow : 2 ^ (8 * bytes.length) = 256 ^ bytes.length := pow_mul 2 8 _
    have hhead : (beNat (b :: bytes)) >>> (8 * bytes.length) = b.toNat := by
      rw [beNat_cons, Nat.shiftRight_eq_div_pow, hpow, add_comm, Nat.add_mul_div_right _ _ (by positivity),
        Nat.div_eq_of_lt (beNat_lt bytes), zero_add]
    rw [List.length_cons, beBytes, hhead, BitVec.ofNat_toNat, BitVec.setWidth_eq, beNat_cons, beBytes_mul_add, ih]

/-- A layout from `offset` on: the bytes of the field there, and what stands after it. -/
theorem drop_eq_beBytes_append (hw : 2 ^ w = 256 ^ n) (h : offset + n ≤ bytes.length) :
    bytes.drop offset = beBytes n (BitVec.ofNat w (fieldAt bytes offset n)).toNat ++ bytes.drop (offset + n) := by
  have hlength : ((bytes.drop offset).take n).length = n := by
    rw [List.length_take, List.length_drop]
    omega
  have hvalue : (BitVec.ofNat w (fieldAt bytes offset n)).toNat = beNat ((bytes.drop offset).take n) := by
    rw [BitVec.toNat_ofNat, fieldAt, hw]
    exact Nat.mod_eq_of_lt (by simpa only [hlength] using beNat_lt ((bytes.drop offset).take n))
  have hfield := beBytes_beNat ((bytes.drop offset).take n)
  rw [hlength] at hfield
  rw [hvalue, hfield, ← List.drop_drop, List.take_append_drop]

/-- A number written in as many bytes as its width takes reads back. -/
theorem ofNat_toNat_mod {m : Nat} (x : BitVec w) (hm : 2 ^ w = m) : BitVec.ofNat w (x.toNat % m) = x := by
  rw [← hm, Nat.mod_eq_of_lt x.isLt, BitVec.ofNat_toNat, BitVec.setWidth_eq]

theorem fieldAt_beBytes (n v : Nat) : fieldAt (beBytes n v) 0 n = v % 256 ^ n := by
  rw [← fieldAt_beBytes_append n v [], List.append_nil]

/-- A field begins with the byte at its offset. -/
theorem take_drop_succ (h : offset < bytes.length) (n : Nat) :
    (bytes.drop offset).take (n + 1) = bytes[offset] :: (bytes.drop (offset + 1)).take n := by
  rw [List.drop_eq_getElem_cons h, List.take_succ_cons]

theorem fieldAt_one (h : offset < bytes.length) : fieldAt bytes offset 1 = bytes[offset].toNat := by
  simp [fieldAt, take_drop_succ h, beNat]

/-- A layout from `offset` on: the byte there, and what stands after it. -/
theorem drop_eq_byte_cons (h : offset < bytes.length) :
    bytes.drop offset = BitVec.ofNat 8 (fieldAt bytes offset 1) :: bytes.drop (offset + 1) := by
  rw [fieldAt_one h, BitVec.ofNat_toNat, BitVec.setWidth_eq, List.drop_eq_getElem_cons h]

theorem fieldAt_two (h : offset + 1 < bytes.length) :
    fieldAt bytes offset 2 = bytes[offset].toNat * 256 + bytes[offset + 1].toNat := by
  simp [fieldAt, take_drop_succ (Nat.lt_of_succ_lt h), take_drop_succ h, beNat]

theorem fieldAt_three (h : offset + 2 < bytes.length) :
    fieldAt bytes offset 3 = (bytes[offset].toNat * 256 + bytes[offset + 1].toNat) * 256 + bytes[offset + 2].toNat := by
  simp [fieldAt, take_drop_succ (Nat.lt_of_succ_lt (Nat.lt_of_succ_lt h)), take_drop_succ (Nat.lt_of_succ_lt h),
    take_drop_succ h, beNat]

theorem fieldAt_four (h : offset + 3 < bytes.length) :
    fieldAt bytes offset 4 =
      ((bytes[offset].toNat * 256 + bytes[offset + 1].toNat) * 256 + bytes[offset + 2].toNat) * 256
        + bytes[offset + 3].toNat := by
  simp [fieldAt, take_drop_succ (Nat.lt_of_succ_lt (Nat.lt_of_succ_lt (Nat.lt_of_succ_lt h))),
    take_drop_succ (Nat.lt_of_succ_lt (Nat.lt_of_succ_lt h)), take_drop_succ (Nat.lt_of_succ_lt h),
    take_drop_succ h, beNat]

end Layouts

/-! ## The descriptor's layout (R163) -/

section DescriptorLayout

/-- R163: the bytes of a descriptor carry it. -/
theorem rawDescriptor_ofBytes_toBytes (d : RawDescriptor) : RawDescriptor.ofBytes d.toBytes = d := by
  simp only [RawDescriptor.ofBytes, RawDescriptor.toBytes, List.append_assoc, List.cons_append, List.nil_append,
    fieldAt_cons_zero, fieldAt_cons_succ, fieldAt_beBytes_append, fieldAt_beBytes, fieldAt_append_of_le, length_beBytes,
    Nat.reduceLeDiff, Nat.reduceSub, Nat.reducePow, BitVec.ofNat_toNat, BitVec.setWidth_eq, ofNat_toNat_mod]

/-- R163: 28 bytes are those of the descriptor they carry. -/
theorem rawDescriptor_toBytes_ofBytes {bytes : List Byte} (h : bytes.length = 28) :
    (RawDescriptor.ofBytes bytes).toBytes = bytes := by
  have hbyte (o : Nat) (ho : o < 28) := drop_eq_byte_cons (bytes := bytes) (offset := o) (by omega)
  have hhalf (o : Nat) (ho : o < 27) :=
    drop_eq_beBytes_append (bytes := bytes) (offset := o) (w := 16) (n := 2) rfl (by omega)
  have hword (o : Nat) (ho : o < 25) :=
    drop_eq_beBytes_append (bytes := bytes) (offset := o) (w := 32) (n := 4) rfl (by omega)
  have hlast : bytes.drop 25 = beBytes 3 (BitVec.ofNat 24 (fieldAt bytes 25 3)).toNat := by
    rw [drop_eq_beBytes_append (w := 24) (n := 3) rfl (by omega), List.drop_eq_nil_of_le (by omega), List.append_nil]
  symm
  calc bytes = bytes.drop 0 := rfl
    _ = _ := by
      rw [hword 0 (by decide), hbyte 4 (by decide), hbyte 5 (by decide), hhalf 6 (by decide), hbyte 8 (by decide),
        hbyte 9 (by decide), hbyte 10 (by decide), hbyte 11 (by decide), hbyte 12 (by decide), hbyte 13 (by decide),
        hbyte 14 (by decide), hbyte 15 (by decide), hword 16 (by decide), hhalf 20 (by decide), hbyte 22 (by decide),
        hhalf 23 (by decide), hlast]
      simp only [RawDescriptor.toBytes, RawDescriptor.ofBytes, List.append_assoc, List.cons_append, List.nil_append]

/-- R163: the fields of the descriptor, each from the bytes at its offset. -/
theorem rawDescriptor_ofBytes_fields (b : Vector Byte 28) :
    RawDescriptor.ofBytes b.toList =
      { base := BitVec.ofNat 32 (((b[0].toNat * 256 + b[1].toNat) * 256 + b[2].toNat) * 256 + b[3].toNat)
        channels := b[4], sampleBytes := b[5], depth := BitVec.ofNat 16 (b[6].toNat * 256 + b[7].toNat)
        producerPort := b[8], consumerPort := b[9], observerPolicy := b[10], fullPolicy := b[11], stallLimit := b[12]
        emptyPolicy := b[13], waitLimit := b[14], fillMode := b[15]
        fillWord := BitVec.ofNat 32 (((b[16].toNat * 256 + b[17].toNat) * 256 + b[18].toNat) * 256 + b[19].toNat)
        restartLevel := BitVec.ofNat 16 (b[20].toNat * 256 + b[21].toNat), autoResume := b[22]
        spanLength := BitVec.ofNat 16 (b[23].toNat * 256 + b[24].toNat)
        budget := BitVec.ofNat 24 ((b[25].toNat * 256 + b[26].toNat) * 256 + b[27].toNat) } := by
  have hlength : b.toList.length = 28 := b.length_toList
  simp only [RawDescriptor.ofBytes, fieldAt_one, fieldAt_two, fieldAt_three, fieldAt_four, hlength, Nat.reduceLT,
    Nat.reduceAdd, Vector.getElem_toList, BitVec.ofNat_toNat, BitVec.setWidth_eq]

/-- R2, R163: a stored setting has the code it came with. -/
theorem storedDescriptor_toRaw {r : RawDescriptor} (h : DescriptorInRange r) :
    (storedDescriptor r).toRaw =
      { r with stallLimit := if r.fullPolicy = 1#8 then r.stallLimit else 0#8
               waitLimit := if r.emptyPolicy = 1#8 then r.waitLimit else 0#8 } := by
  obtain ⟨-, -, -, -, hproducer, hconsumer, hobserver, hfull, hempty, hfill, hresume, -⟩ := h
  have hport {b : Byte} (hb : b.toNat ≤ 3) : BitVec.ofNat 8 (portOfByte b).val = b := by
    have hval : (portOfByte b).val = b.toNat := Nat.mod_eq_of_lt (Nat.lt_succ_of_le hb)
    rw [hval, BitVec.ofNat_toNat, BitVec.setWidth_eq]
  have hobserver : (storedDescriptor r).observerPolicy.code = r.observerPolicy := by
    rcases hobserver with hcode | hcode <;> simp [storedDescriptor, ObserverPolicy.code, hcode]
  have hfill : (storedDescriptor r).fillMode.code = r.fillMode := by
    rcases hfill with hcode | hcode | hcode <;> simp [storedDescriptor, FillMode.code, hcode]
  have hresume : (if (storedDescriptor r).autoResume then 1#8 else 0#8) = r.autoResume := by
    rcases hresume with hcode | hcode <;> simp [storedDescriptor, hcode]
  have hfull : (storedDescriptor r).fullPolicy.code = r.fullPolicy
      ∧ BitVec.ofNat 8 (storedDescriptor r).stallLimit = if r.fullPolicy = 1#8 then r.stallLimit else 0#8 := by
    rcases hfull with hcode | hcode <;> simp [storedDescriptor, FullPolicy.code, hcode]
  have hempty : (storedDescriptor r).emptyPolicy.code = r.emptyPolicy
      ∧ BitVec.ofNat 8 (storedDescriptor r).waitLimit = if r.emptyPolicy = 1#8 then r.waitLimit else 0#8 := by
    rcases hempty with hcode | hcode <;> simp [storedDescriptor, EmptyPolicy.code, hcode]
  rw [Descriptor.toRaw, hobserver, hfill, hresume, hfull.1, hfull.2, hempty.1, hempty.2]
  simp [storedDescriptor, hport hproducer, hport hconsumer]

/-- R3: the body ends after depth frames. -/
theorem storedDescriptor_bodyEnd {r : RawDescriptor} (h : DescriptorInRange r) :
    (storedDescriptor r).bodyLast.toNat + 1
      = r.base.toNat + r.depth.toNat * (r.channels.toNat * r.sampleBytes.toNat) := by
  have hpos : 1 ≤ r.depth.toNat * (r.channels.toNat * r.sampleBytes.toNat) := (rawFrameBytes_pos h).2
  rw [storedDescriptor_bodyLast h, rawBodyLast, rawFrameBytes]
  omega

/-- Settles O5: each field is read at its offset; a stored setting has the code it came with. -/
theorem descriptorFieldsStandAtTheirOffsetsAndReadBack :
    Obligations.DescriptorFieldsStandAtTheirOffsetsAndReadBack := by
  refine ⟨fun b => ?_, fun r h => ⟨storedDescriptor_toRaw h, rfl, storedDescriptor_bodyEnd h⟩⟩
  rw [rawDescriptor_ofBytes_fields]
  exact ⟨rfl, rfl, rfl, rfl, rfl, rfl, rfl, rfl, rfl, rfl, rfl, rfl, rfl, rfl, rfl, rfl, rfl⟩

end DescriptorLayout

/-! ## Command frames (R152, R156) -/

section Frames

variable {c : Instr} {code target : Byte} {args frame : List Byte}

/-- R156: the argument of a command whose arguments are one number. -/
theorem args_eq_beBytes {n w : Nat} (hw : 2 ^ w = 256 ^ n) (h : args.length = n) :
    args = beBytes n (BitVec.ofNat w (fieldAt args 0 n)).toNat := by
  have hdrop := drop_eq_beBytes_append (bytes := args) (offset := 0) hw (by omega)
  rwa [Nat.zero_add, ← h, List.drop_length, List.append_nil, List.drop_zero, h] at hdrop

/-- R156: the argument of a command with one argument byte. -/
theorem args_eq_byte (h : args.length = 1) : args = [BitVec.ofNat 8 (fieldAt args 0 1)] := by
  have hdrop := drop_eq_byte_cons (bytes := args) (offset := 0) (by omega)
  rwa [Nat.zero_add, ← h, List.drop_length, List.drop_zero, h] at hdrop

/-- R156: the arguments of BIND_PACE. -/
theorem args_eq_three_bytes (h : args.length = 3) :
    args = [BitVec.ofNat 8 (fieldAt args 0 1), BitVec.ofNat 8 (fieldAt args 1 1),
      BitVec.ofNat 8 (fieldAt args 2 1)] := by
  calc args = args.drop 0 := rfl
    _ = _ := by
      rw [drop_eq_byte_cons (by omega), drop_eq_byte_cons (by omega), drop_eq_byte_cons (by omega),
        List.drop_eq_nil_of_le (by omega)]

/-- R156: the arguments of SET_INTEGRITY. -/
theorem args_eq_two_words (h : args.length = 8) :
    args = beBytes 4 (BitVec.ofNat 32 (fieldAt args 0 4)).toNat
      ++ beBytes 4 (BitVec.ofNat 32 (fieldAt args 4 4)).toNat := by
  calc args = args.drop 0 := rfl
    _ = _ := by
      rw [drop_eq_beBytes_append (w := 32) (n := 4) rfl (by omega),
        drop_eq_beBytes_append (w := 32) (n := 4) rfl (by omega), List.drop_eq_nil_of_le (by omega), List.append_nil]

/-- R152, R156: the frame of a row decodes to its command. -/
theorem decodeFrame_of_frame (h : c.frame = some frame) :
    2 ≤ frame.length ∧ decodeFrame (frame.getD 0 0#8) (frame.getD 1 0#8) (frame.drop 2) = some c := by
  cases c with
  | openStream target desc =>
    cases h
    exact ⟨by simp, by simp [decodeFrame, argumentBytes, rawDescriptor_ofBytes_toBytes]⟩
  | closeDrain target =>
    cases h
    exact ⟨by simp, by simp [decodeFrame, argumentBytes, fieldAt_cons_zero]⟩
  | closeAbort target =>
    cases h
    exact ⟨by simp, by simp [decodeFrame, argumentBytes, fieldAt_cons_zero]⟩
  | extend target frames =>
    cases h
    exact ⟨by simp, by simp [decodeFrame, argumentBytes, fieldAt_beBytes, ofNat_toNat_mod]⟩
  | acknowledgeProducer target =>
    cases h
    exact ⟨by simp, by simp [decodeFrame, argumentBytes, fieldAt_cons_zero]⟩
  | acknowledgeConsumer target =>
    cases h
    exact ⟨by simp, by simp [decodeFrame, argumentBytes, fieldAt_cons_zero]⟩
  | status target =>
    cases h
    exact ⟨by simp, by simp [decodeFrame, argumentBytes]⟩
  | takeNotice target =>
    cases h
    exact ⟨by simp, by simp [decodeFrame, argumentBytes]⟩
  | bindPace line stream side packet =>
    cases h
    exact ⟨by simp, by simp [decodeFrame, argumentBytes, fieldAt_cons_zero, fieldAt_cons_succ]⟩
  | unbindPace line =>
    cases h
    exact ⟨by simp, by simp [decodeFrame, argumentBytes]⟩
  | setIntegrity target polynomial initial =>
    cases h
    exact ⟨by simp, by
      simp [decodeFrame, argumentBytes, fieldAt_beBytes_append, fieldAt_append_of_le, fieldAt_beBytes, ofNat_toNat_mod]⟩
  | setAlertMask target mask =>
    cases h
    exact ⟨by simp, by simp [decodeFrame, argumentBytes, fieldAt_beBytes, ofNat_toNat_mod]⟩
  | setTimebase target divider =>
    cases h
    exact ⟨by simp, by simp [decodeFrame, argumentBytes, fieldAt_cons_zero]⟩
  | reset target =>
    cases h
    exact ⟨by simp, by simp [decodeFrame, argumentBytes]⟩
  | _ => nomatch h

/-- R156: a frame that decodes to a command has the argument bytes of its code. -/
theorem argumentBytes_of_decoded (h : decodeFrame code target args = some c) :
    argumentBytes code = some args.length := by
  by_contra hcount
  rw [decodeFrame, if_pos hcount] at h
  cases h

/-- R156: the assigned codes, each with the number of its argument bytes. -/
theorem argumentBytes_cases : ∀ code : Byte, ∀ n ∈ argumentBytes code,
    (code = 0x10#8 ∧ n = 28) ∨ (code = 0x11#8 ∧ n = 1) ∨ (code = 0x12#8 ∧ n = 3) ∨ (code = 0x13#8 ∧ n = 1)
      ∨ (code = 0x20#8 ∧ n = 0) ∨ (code = 0x21#8 ∧ n = 0) ∨ (code = 0x30#8 ∧ n = 3) ∨ (code = 0x31#8 ∧ n = 0)
      ∨ (code = 0x40#8 ∧ n = 8) ∨ (code = 0x41#8 ∧ n = 2) ∨ (code = 0x42#8 ∧ n = 1) ∨ (code = 0x50#8 ∧ n = 0) := by
  decide +kernel

/-- R152, R156: a frame that decodes to a command is that command's frame. -/
theorem frame_of_decoded (h : decodeFrame code target args = some c) : c.frame = some (code :: target :: args) := by
  have hnone (hlength : args.length = 0) : args = [] := List.eq_nil_of_length_eq_zero hlength
  obtain ⟨rfl, hlength⟩ | ⟨rfl, hlength⟩ | ⟨rfl, hlength⟩ | ⟨rfl, hlength⟩ | ⟨rfl, hlength⟩ | ⟨rfl, hlength⟩
    | ⟨rfl, hlength⟩ | ⟨rfl, hlength⟩ | ⟨rfl, hlength⟩ | ⟨rfl, hlength⟩ | ⟨rfl, hlength⟩ | ⟨rfl, hlength⟩ :=
    argumentBytes_cases code args.length (argumentBytes_of_decoded h)
  all_goals simp only [decodeFrame, argumentBytes, BitVec.reduceEq, ↓reduceIte, hlength, ne_eq, not_true_eq_false,
    Option.some.injEq] at h
  · rw [← h, Instr.frame, rawDescriptor_toBytes_ofBytes hlength]
  · rw [args_eq_byte hlength]
    split_ifs at h with hmode hmode <;> obtain rfl := Option.some.inj h <;> rw [hmode] <;> rfl
  · rw [← h, Instr.frame, ← args_eq_beBytes rfl hlength]
  · rw [args_eq_byte hlength]
    split_ifs at h with hside hside <;> obtain rfl := Option.some.inj h <;> rw [hside] <;> rfl
  · rw [← h, Instr.frame, hnone hlength]
  · rw [← h, Instr.frame, hnone hlength]
  · rw [← h, Instr.frame, ← args_eq_three_bytes hlength]
  · rw [← h, Instr.frame, hnone hlength]
  · rw [← h, Instr.frame, ← args_eq_two_words hlength]
  · rw [← h, Instr.frame, ← args_eq_beBytes rfl hlength]
  · rw [← h, Instr.frame, ← args_eq_byte hlength]
  · rw [← h, Instr.frame, hnone hlength]

/-- Settles O4: a frame is laid out, and read, by the fields of its arguments. -/
theorem commandFramesAndCommandsAgree : Obligations.CommandFramesAndCommandsAgree :=
  ⟨fun _ _ h => decodeFrame_of_frame h, fun _ _ _ _ h => frame_of_decoded h⟩

end Frames

end Sys2Proof.Machine

namespace Sys2Proof.Machine

open Sys2Proof Sys2Proof.Safety

/-! ## Ticks (R26, R159) -/

section Ticks

variable {s : State} {port : Port} {x : Transaction} {h : Hold}

/-- R26: a tick changes the hold timer of the transaction in progress alone. -/
theorem Port.tick_of_txn (htxn : port.txn = some x) :
    port.tick = { port with txn := some { x with hold := x.hold.map Hold.tick } } := by
  rw [Port.tick, htxn]
  rfl

theorem Port.tick_of_idle (htxn : port.txn = none) : port.tick = port := by
  rw [Port.tick, htxn, Option.map_none, ← htxn]

/-- R26: a port that does not hold takes no tick. -/
theorem Port.tick_of_no_hold (htxn : port.txn = some x) (hhold : x.hold = none) : port.tick = port := by
  rw [Port.tick_of_txn htxn, hhold, Option.map_none, ← hhold, ← htxn]

/-- R26: a running timer below its limit counts the tick. -/
theorem Port.tick_of_running (htxn : port.txn = some x) (hhold : x.hold = some h) (hbelow : h.count < h.limit) :
    port.tick = { port with txn := some { x with hold := some { h with count := h.count + 1 } } } := by
  rw [Port.tick_of_txn htxn, hhold, Option.map_some, Hold.tick, if_pos hbelow]

/-- R26: a timer that has reached its limit has stopped. -/
theorem Port.tick_of_stopped (htxn : port.txn = some x) (hhold : x.hold = some h) (hlimit : h.limit ≤ h.count) :
    port.tick = port := by
  rw [Port.tick_of_txn htxn, hhold, Option.map_some, Hold.tick, if_neg (Nat.not_lt.mpr hlimit), ← hhold, ← htxn]

/-- R159: a tick reaches the ports one by one. -/
theorem State.takeTick_port (s : State) (p : PortId) : s.takeTick.port p = (s.port p).tick :=
  State.port_mapPorts s (fun _ port => port.tick) p

/-- R159: while PORn is high the tick is taken. -/
theorem exec_microsecondTick_of_high (hpor : s.porHigh = true) :
    exec .microsecondTick s = .next s.takeTick :=
  congrArg _ (if_pos hpor)

/-- R159: while PORn is low no tick is taken. -/
theorem exec_microsecondTick_of_low (hpor : s.porHigh = false) : exec .microsecondTick s = .next s :=
  congrArg _ (if_neg (Bool.eq_false_iff.mp hpor))

/-- On an empty queue a REFCLK period passes (log entry 13). -/
theorem step_of_empty (hempty : s.pending = []) : step s = .next s.refclk := by
  rw [step, hempty]

/-- Settles O2: a REFCLK period is a count or a tick, and a tick is taken by each port for itself. -/
theorem clockAndMicrosecondTick : Obligations.ClockAndMicrosecondTick := by
  refine ⟨fun s hempty => ?_, fun s => ⟨exec_microsecondTick_of_low, fun hpor => ?_⟩⟩
  · rw [step_of_empty hempty]
    refine ⟨fun hpor => ?low, fun hpor hbelow => ?counted, fun hpor hreached => ?tick⟩
    case low => rw [State.refclk, if_neg (Bool.eq_false_iff.mp hpor)]
    case counted => rw [State.refclk, if_pos hpor, if_pos hbelow]
    case tick =>
      rw [State.refclk, if_pos hpor, if_neg (Nat.not_lt.mpr hreached), exec_microsecondTick_of_high hpor]
  · refine ⟨s.takeTick, exec_microsecondTick_of_high hpor, rfl, fun p htxn => ?_, fun p x htxn =>
      ⟨fun hhold => ?_, fun h hhold => ⟨fun hbelow => ?_, fun hlimit => ?_⟩⟩, rfl⟩
    · rw [State.takeTick_port, Port.tick_of_idle htxn]
    · rw [State.takeTick_port, Port.tick_of_no_hold htxn hhold]
    · rw [State.takeTick_port, Port.tick_of_running htxn hhold hbelow]
    · rw [State.takeTick_port, Port.tick_of_stopped htxn hhold hlimit]

end Ticks

/-! ## Edges of SCK (R151 to R155) -/

section Edges

variable {s : State} {code b : Byte}

/-- R151, R161: an edge is ignored while PORn is low or CSn high, and while the port is IDLE. -/
theorem exec_sckEdge_of_ignored (h : s.porHigh = false ∨ s.csHigh = true ∨ s.spi.phase = .idle) (edge : SckEdge) :
    exec (.sckEdge edge) s = .next s := by
  have hignored : (s.selected && s.spi.phase != .idle) = false := by
    rcases h with h | h | h <;> simp [State.selected, h]
  exact congrArg _ (if_neg (Bool.eq_false_iff.mp hignored))

/-- R151: within a transaction an edge is taken. -/
theorem edge_taken (hpor : s.porHigh = true) (hcs : s.csHigh = false) (hphase : s.spi.phase ≠ .idle) :
    (s.selected && s.spi.phase != .idle) = true := by
  simp [State.selected, hpor, hcs, hphase]

theorem exec_rising_of_selected (hpor : s.porHigh = true) (hcs : s.csHigh = false) (hphase : s.spi.phase ≠ .idle)
    (mosi : Bool) : exec (.sckEdge (.rising mosi)) s = .next (s.sckRising mosi) :=
  congrArg _ (if_pos (edge_taken hpor hcs hphase))

theorem exec_falling_of_selected (hpor : s.porHigh = true) (hcs : s.csHigh = false) (hphase : s.spi.phase ≠ .idle) :
    exec (.sckEdge .falling) s = .next s.sckFalling :=
  congrArg _ (if_pos (edge_taken hpor hcs hphase))

/-- R151: a rising edge before the eighth takes one bit. -/
theorem State.sckRising_of_bit (hcount : s.spi.bitCount < 7) (mosi : Bool) :
    s.sckRising mosi =
      s.modSpi fun m => { m with bitCount := m.bitCount + 1, shiftIn := shiftBit s.spi.shiftIn mosi } :=
  if_neg (Nat.ne_of_lt hcount)

/-- R151, R153: byte 0 with an assigned code enters FRAME. -/
theorem Management.receiveCode_of_assigned (m : Management) (h : argumentBytes code ≠ none) :
    m.receiveCode code =
      { m with phase := .frame, frame := [code], bitCount := 0, shiftIn := 0#8, outByte := 0x00#8
               truncated := false } := by
  simp [Management.receiveCode, Option.isSome_iff_ne_none.mpr h]

/-- R155: byte 0 with an unassigned code enters REJECT. -/
theorem Management.receiveCode_of_unassigned (m : Management) (h : argumentBytes code = none) :
    m.receiveCode code =
      { m with phase := .reject, frame := [code], bitCount := 0, shiftIn := 0#8, outByte := 0x0F#8
               truncated := false } := by
  simp [Management.receiveCode, h, unknownByte, ResultCode.byte]

theorem State.receiveByte_of_summary (hphase : s.spi.phase = .summary) (b : Byte) :
    s.receiveByte b = s.modSpi fun m => m.receiveCode b := by
  simp only [State.receiveByte, hphase]

/-- R151: a byte of an incomplete frame is collected, and 0x00 follows. -/
theorem State.receiveByte_of_incomplete (hphase : s.spi.phase = .frame)
    (hincomplete : frameComplete (s.spi.frame ++ [b]) = false) :
    s.receiveByte b = s.modSpi fun m =>
      { m with frame := s.spi.frame ++ [b], bitCount := 0, shiftIn := 0#8, outByte := 0x00#8 } := by
  simp [State.receiveByte, hphase, hincomplete]

/-- R152: in RESULT the bytes sent are ignored, and the result bytes follow. -/
theorem State.receiveByte_of_result (hphase : s.spi.phase = .result) (b : Byte) :
    s.receiveByte b = s.modSpi fun m =>
      { m with bitCount := 0, shiftIn := 0#8, outByte := m.outQueue.headD 0x00#8, outQueue := m.outQueue.drop 1 } := by
  simp only [State.receiveByte, hphase]

/-- R155: in REJECT every byte is answered UNKNOWN. -/
theorem State.receiveByte_of_reject (hphase : s.spi.phase = .reject) (b : Byte) :
    s.receiveByte b = s.modSpi fun m => { m with bitCount := 0, shiftIn := 0#8, outByte := 0x0F#8 } := by
  simp only [State.receiveByte, hphase]
  rfl

/-- R152, R156: a frame is complete when it holds its code, its target and its argument bytes. -/
theorem frameComplete_eq_false {frame : List Byte}
    (h : argumentBytes (frame.getD 0 0#8) ≠ some (frame.length - 2)) (htwo : 2 ≤ frame.length) :
    frameComplete frame = false := by
  unfold frameComplete
  split
  · next n hn =>
    rw [hn] at h
    have hne : n ≠ frame.length - 2 := fun heq => h (congrArg some heq)
    exact beq_eq_false_iff_ne.mpr (by omega)
  · rfl

/-- Settles O7: an edge takes a bit or a byte, and a byte goes by the phase. -/
theorem sckEdgesShiftBitsAndReceiveBytes : Obligations.SckEdgesShiftBitsAndReceiveBytes := by
  refine ⟨fun s mosi => ⟨fun hpor hcs hphase => ⟨fun hcount => ?bit, fun _ => ?falling⟩, fun hignored =>
    ⟨exec_sckEdge_of_ignored hignored _, exec_sckEdge_of_ignored hignored _⟩⟩,
    fun s mosi b hb hpor hcs hcount => ?bytes⟩
  case bit =>
    rw [exec_rising_of_selected hpor hcs hphase, ← shiftBit_eq]
    exact congrArg _ (State.sckRising_of_bit hcount mosi)
  case falling => exact exec_falling_of_selected hpor hcs hphase
  case bytes =>
    have hreceived (hphase : s.spi.phase ≠ .idle) : exec (.sckEdge (.rising mosi)) s = .next (s.receiveByte b) :=
      hb ▸ exec_sckEdge_of_lastBit hpor hcs hphase hcount mosi
    refine ⟨fun hphase hassigned => ?_, fun hphase hunassigned => ?_, fun hphase hmore hsome => ?_, fun hphase => ?_,
      fun hphase => ?_⟩
    all_goals rw [hreceived (by simp [hphase])]
    · rw [State.receiveByte_of_summary hphase, State.modSpi, Management.receiveCode_of_assigned _ hassigned]
    · rw [State.receiveByte_of_summary hphase, State.modSpi, Management.receiveCode_of_unassigned _ hunassigned]
    · rw [State.receiveByte_of_incomplete hphase (frameComplete_eq_false (by simpa using hmore) (by simpa using hsome))]
      rfl
    · rw [State.receiveByte_of_result hphase]
      rfl
    · rw [State.receiveByte_of_reject hphase]
      rfl

/-- Settles O8: the code is received, and names no command. -/
theorem unknownCodeIsRejected : Obligations.UnknownCodeIsRejected := by
  intro s code hpor hcs hawaits hunassigned
  have hreceiving : (s.selected && s.spi.awaits [code] && codeUnassigned code) = true := by
    simp [State.selected, codeUnassigned, hpor, hcs, hawaits, hunassigned]
  have hexec : exec (.unknown code) s = execUnknown code s := rfl
  rw [hexec, execUnknown, if_pos hreceiving, State.modSpi, Management.receiveCode_of_unassigned _ hunassigned]

end Edges

/-! ## Edges of CSn (R151, R153, R154, R162) -/

section Select

variable {s : State}

/-- R148: ALERTn is released while no record is of an enabled kind. -/
theorem State.alertN_toNat (s : State) :
    64 * s.alertN.toNat = if ∃ n ∈ s.queue.records, s.queue.mask.getLsbD n.kind.code = true then 0 else 64 := by
  have halert : s.queue.alerting = true ↔ ∃ n ∈ s.queue.records, s.queue.mask.getLsbD n.kind.code = true :=
    List.any_eq_true
  by_cases h : ∃ n ∈ s.queue.records, s.queue.mask.getLsbD n.kind.code = true
  · rw [if_pos h, State.alertN, halert.mpr h]
    rfl
  · rw [if_neg h, State.alertN, Bool.eq_false_iff.mpr (mt halert.mp h)]
    rfl

/-- R162: the summary byte, from the truncated flag, the alert level and the notice count. -/
theorem State.summaryByte_eq (s : State) :
    s.summaryByte = BitVec.ofNat 8 ((if s.spi.truncated then 128 else 0)
      + (if ∃ n ∈ s.queue.records, s.queue.mask.getLsbD n.kind.code = true then 0 else 64)
      + s.queue.records.length) := by
  rw [State.summaryByte, State.alertN_toNat]
  cases s.spi.truncated <;> rfl

/-- R162: bit 7 of the summary byte is the truncated flag. -/
theorem State.summaryByte_bit7 (h : s.queue.records.length ≤ 32) : s.summaryByte.getLsbD 7 = s.spi.truncated := by
  have hlow : 64 * s.alertN.toNat + s.queue.records.length < 2 ^ 7 := by
    have := s.alertN.toNat_le
    omega
  rw [State.summaryByte, Nat.add_assoc, BitVec.getLsbD_ofNat]
  cases s.spi.truncated with
  | false => simp [Nat.testBit_lt_two_pow hlow]
  | true =>
    simpa [Nat.testBit_lt_two_pow hlow] using
      Nat.testBit_two_pow_add_eq (64 * s.alertN.toNat + s.queue.records.length) 7

/-- R154: a command is cut short in FRAME, and in SUMMARY with a bit of byte 0 received. -/
theorem Management.truncates_eq (m : Management) :
    m.truncates = (decide (m.phase = .frame) || (decide (m.phase = .summary) && decide (m.bitCount ≠ 0))) := by
  simp [Management.truncates, bne, beq_eq_decide]

/-- R153: CSn falls with PORn high: a transaction begins. -/
theorem exec_csnFall_of_high (hcs : s.csHigh = true) (hpor : s.porHigh = true) :
    exec .csnFall s = .next (State.beginTransaction { s with csHigh := false }) :=
  congrArg _ ((if_pos hcs).trans (if_pos hpor))

/-- R161: with PORn low the port ignores the fall of CSn. -/
theorem exec_csnFall_of_low (hcs : s.csHigh = true) (hpor : s.porHigh = false) :
    exec .csnFall s = .next { s with csHigh := false } :=
  congrArg _ ((if_pos hcs).trans (if_neg (Bool.eq_false_iff.mp hpor)))

/-- R154: CSn rises with PORn high: the transaction ends, and a pending soft reset takes effect (R160). -/
theorem exec_csnRise_of_high (hcs : s.csHigh = false) (hpor : s.porHigh = true) :
    exec .csnRise s =
      .next (if s.spi.resetPending then
          State.softReset { s with csHigh := true, spi := s.spi.endTransaction }
        else { s with csHigh := true, spi := s.spi.endTransaction }) :=
  congrArg _ ((if_neg (Bool.eq_false_iff.mp hcs)).trans (if_pos hpor))

/-- R161: with PORn low the port ignores the rise of CSn. -/
theorem exec_csnRise_of_low (hcs : s.csHigh = false) (hpor : s.porHigh = false) :
    exec .csnRise s = .next { s with csHigh := true } :=
  congrArg _ ((if_neg (Bool.eq_false_iff.mp hcs)).trans (if_neg (Bool.eq_false_iff.mp hpor)))

/-- Settles O9: an edge of CSn begins or ends the transaction; with PORn low it changes the level alone. -/
theorem csnEdgesBeginAndEndATransaction : Obligations.CsnEdgesBeginAndEndATransaction := by
  refine ⟨fun s hcs => ⟨fun hpor hcount => ?fall, exec_csnFall_of_low hcs⟩,
    fun s hcs => ⟨fun hpor hpending => ?rise, exec_csnRise_of_low hcs⟩⟩
  case fall =>
    have hsummary : State.summaryByte { s with csHigh := false } = s.summaryByte := rfl
    rw [exec_csnFall_of_high hcs hpor, State.beginTransaction, hsummary, State.summaryByte_bit7 hcount,
      State.summaryByte_eq]
    rfl
  case rise =>
    rw [exec_csnRise_of_high hcs hpor, if_neg (Bool.eq_false_iff.mp hpending), Management.endTransaction,
      Management.truncates_eq, ← Bool.or_assoc]

end Select

/-! ## The resets (R20, R149, R150, R160, R161) -/

section ResetValues

variable {s : State}

/-- With every stream CLOSED, a response returned changes its port alone. -/
theorem State.returnResponse_of_closed (hclosed : ∀ i : StreamId, (s.stream i).state = .closed) (p : PortId)
    (x : ResponseSlot) (r : Response) : ∃ ports, s.returnResponse p x r = { s with ports := ports } := by
  have hdead (f : Port → Port) (b : Binding) : (s.modPort p f).live b = false := by simp [State.live, hclosed]
  unfold State.returnResponse
  dsimp only
  split
  · rw [State.realReturned_of_closed (hdead _ _)]
    exact ⟨_, rfl⟩
  · exact ⟨_, rfl⟩

/-- With every stream CLOSED, the return of what is due changes the ports alone. -/
theorem State.settle_of_closed (hclosed : ∀ i : StreamId, (s.stream i).state = .closed) :
    ∃ ports, s.settle = { s with ports := ports } := by
  have hdue (n : Nat) : ∃ ports, State.returnDue n s = { s with ports := ports } := by
    induction n generalizing s with
    | zero => exact ⟨s.ports, rfl⟩
    | succ n ih =>
      rw [State.returnDue]
      split
      · exact ⟨s.ports, rfl⟩
      · next p x r _ =>
        obtain ⟨ports, hreturned⟩ := State.returnResponse_of_closed hclosed p x r
        obtain ⟨ports', hrest⟩ := ih (s := { s with ports := ports }) hclosed
        exact ⟨ports', hreturned ▸ hrest⟩
  obtain ⟨ports, hreturned⟩ := hdue maxResponses
  exact ⟨_, by rw [State.settle, hreturned]; rfl⟩

/-- R160: what a soft reset leaves, but for the ports and the memory port. -/
theorem State.softReset_eq (s : State) :
    ∃ ports, s.softReset = { s.resetBlocks.postStarted 2#32 with ports := ports } :=
  State.settle_of_closed fun i => congrArg Stream.state (s.resetBlocks_stream i)

/-- R124: every pace line is UNBOUND after a reset. -/
theorem State.resetBlocks_line (s : State) (l : LineId) : s.resetBlocks.line l = Line.reset :=
  State.line_mapLines (s.mapStreams fun st => Stream.reset st.session) (fun _ => Line.reset) l

/-- Settles O10: a reset gives each block its reset values, and the return of what is due changes the ports alone. -/
theorem bothResetsGiveTheResetValues : Obligations.BothResetsGiveTheResetValues := by
  refine ⟨fun s hpor hcs hpending => ?soft, fun s hpor => ?power, fun s hlow => ⟨?rise, fun hempty hzero => ?started⟩⟩
  case soft =>
    obtain ⟨ports, hreset⟩ := State.softReset_eq { s with csHigh := true, spi := s.spi.endTransaction }
    have hstream := State.resetBlocks_stream { s with csHigh := true, spi := s.spi.endTransaction }
    have hline := State.resetBlocks_line { s with csHigh := true, spi := s.spi.endTransaction }
    rw [exec_csnRise_of_high hcs hpor, if_pos hpending, hreset]
    exact ⟨_, rfl, hpor, rfl, rfl, rfl, rfl, hstream, rfl, rfl, hline, rfl, rfl, rfl, rfl, rfl⟩
  case power =>
    obtain ⟨ports, hreset⟩ := State.settle_of_closed
      (s := { s.resetBlocks with porHigh := false, spi := Management.reset }) fun i =>
        congrArg Stream.state (s.resetBlocks_stream i)
    have hexec : exec .powerOnReset s =
        .next (State.settle { s.resetBlocks with porHigh := false, spi := Management.reset }) :=
      congrArg _ (if_pos hpor)
    rw [hexec, hreset]
    exact ⟨_, rfl, rfl, rfl, rfl, s.resetBlocks_stream, rfl, rfl, s.resetBlocks_line, rfl, rfl, rfl, rfl, rfl⟩
  case rise => exact congrArg _ (if_neg (Bool.eq_false_iff.mp hlow))
  case started =>
    rw [NoticeQueue.post_of_room _ _ _ _ _ (by simp [hempty]), hempty, hzero]
    rfl

end ResetValues

end Sys2Proof.Machine

namespace Sys2Proof.Machine

open Sys2Proof Sys2Proof.Safety

/-! ## A command beside the frame that brings it (R157) -/

section Beside

variable {s : State} {f : Management → Management}

/-- R110, R157: an abort does not read the management port. -/
theorem State.modSpi_abort (s : State) (f : Management → Management) (i : StreamId) :
    (s.modSpi f).abort i = (s.abort i).modSpi f := by
  rw [State.abort_eq_settle, State.abort_eq_settle, ← State.modSpi_settle]
  rfl

/-- R157: no command reads the management port, and none but RESET changes it, in its pending reset (R160). -/
theorem commandOf_modSpi (hf : ∀ m : Management, f { m with resetPending := true } = { f m with resetPending := true })
    (c : Instr) (s : State) : commandOf c (s.modSpi f) = ((commandOf c s).1.modSpi f, (commandOf c s).2) := by
  cases c with
  | openStream target r =>
    dsimp only [commandOf, State.openCommand]
    cases streamTarget target with
    | none => rfl
    | some i =>
      have hchecks : (s.modSpi f).openRefusal i r = s.openRefusal i r := rfl
      dsimp only
      rw [hchecks]
      cases s.openRefusal i r <;> rfl
  | closeDrain target =>
    dsimp only [commandOf, State.closeDrainCommand]
    cases streamTarget target with
    | none => rfl
    | some i =>
      dsimp only
      rw [State.modSpi_stream]
      cases (s.stream i).state with
      | opened => exact congrArg (·, Answer.plain .ok) (s.modSpi_beginDrain f i)
      | _ => rfl
  | closeAbort target =>
    dsimp only [commandOf, State.closeAbortCommand]
    cases streamTarget target with
    | none => rfl
    | some i =>
      dsimp only
      rw [State.modSpi_stream]
      cases (s.stream i).state with
      | opened => exact congrArg (·, Answer.plain .ok) (s.modSpi_abort f i)
      | draining => exact congrArg (·, Answer.plain .ok) (s.modSpi_abort f i)
      | _ => rfl
  | extend target frames =>
    dsimp only [commandOf, State.extendCommand]
    cases streamTarget target with
    | none => rfl
    | some i =>
      dsimp only
      rw [State.modSpi_stream]
      cases (s.stream i).extendRefusal frames.toNat <;> rfl
  | acknowledgeProducer target =>
    dsimp only [commandOf, State.acknowledgeProducerCommand]
    cases streamTarget target with
    | none => rfl
    | some i =>
      dsimp only
      rw [State.modSpi_stream]
      split_ifs <;> rfl
  | acknowledgeConsumer target =>
    dsimp only [commandOf, State.acknowledgeConsumerCommand]
    cases streamTarget target with
    | none => rfl
    | some i =>
      dsimp only
      rw [State.modSpi_stream]
      split_ifs <;> rfl
  | status target =>
    dsimp only [commandOf, State.statusCommand]
    cases streamTarget target <;> rfl
  | takeNotice _ =>
    dsimp only [commandOf, State.takeNoticeCommand]
    rw [State.modSpi_queue]
    cases s.queue.records <;> rfl
  | bindPace line stream side packet =>
    dsimp only [commandOf, State.bindPaceCommand]
    split
    · next l i sd _ _ _ =>
      have hchecks : (s.modSpi f).bindRefusal l i sd packet.toNat = s.bindRefusal l i sd packet.toNat := rfl
      rw [hchecks]
      split_ifs
      · rfl
      · cases s.bindRefusal l i sd packet.toNat <;> rfl
    · rfl
  | unbindPace line =>
    dsimp only [commandOf, State.unbindPaceCommand]
    cases lineTarget line with
    | none => rfl
    | some l =>
      dsimp only
      rw [State.modSpi_line]
      split_ifs <;> rfl
  | setIntegrity _ polynomial initial =>
    have hbusy : (s.modSpi f).spansBusy = s.spansBusy := rfl
    dsimp only [commandOf, State.setIntegrityCommand]
    rw [hbusy]
    split_ifs <;> rfl
  | setTimebase _ divider =>
    dsimp only [commandOf, State.setTimebaseCommand]
    split_ifs <;> rfl
  | reset _ => 
    have hspi : { f s.spi with resetPending := true } = f { s.spi with resetPending := true } := (hf _).symm
    exact congrArg (fun m => ({ s with spi := m }, Answer.plain .ok)) hspi
  | _ => rfl

end Beside

/-! ## The edges of a frame (R151, R152) -/

section Shifting

variable {s : State} {b : Byte} {n : Nat} {edges edges' : List Instr}

theorem runAll_cons {c : Instr} {t : State} (h : exec c s = .next t) (cs : List Instr) :
    runAll (c :: cs) s = runAll cs t := by
  rw [runAll, h]

theorem runAll_append {t : State} (h : runAll edges s = .next t) (edges' : List Instr) :
    runAll (edges ++ edges') s = runAll edges' t := by
  induction edges generalizing s with
  | nil =>
    obtain rfl := Host.Outcome.next.inj h
    rfl
  | cons c edges ih =>
    rw [List.cons_append]
    rw [runAll] at h ⊢
    cases hexec : exec c s with
    | next u =>
      rw [hexec] at h
      exact ih h
    | fault r => exact nomatch r
    | refused r => rw [hexec] at h; cases h

/-- R151: bits 7 to `n` of the byte `b` have been received, with the falling edge after each. -/
def Management.afterBits (m : Management) (b : Byte) (n : Nat) : Management :=
  { m with bitCount := 8 - n, shiftIn := b >>> n, miso := some (m.outByte.getLsbD (n - 1)) }

/-- R151: the edges of the bits `n` to 1 of the byte `b`. -/
def upperEdges (b : Byte) : Nat → List Instr
  | 0 => []
  | n + 1 => .sckEdge (.rising (b.getLsbD (n + 1))) :: .sckEdge .falling :: upperEdges b n

/-- The last bit of a byte is bit 0. -/
theorem bitEdges_succ (b : Byte) (n : Nat) :
    bitEdges b (n + 1) = upperEdges b n ++ [.sckEdge (.rising (b.getLsbD 0)), .sckEdge .falling] := by
  induction n with
  | zero => rfl
  | succ n ih => rw [bitEdges, ih, upperEdges, List.cons_append, List.cons_append]

/-- R151: bits are taken most significant first. -/
theorem shiftBit_shiftRight (b : Byte) (n : Nat) : shiftBit (b >>> (n + 1)) (b.getLsbD n) = b >>> n := by
  have hbit : (b.getLsbD n).toNat = b.toNat >>> n % 2 := by
    rw [← BitVec.testBit_toNat, Nat.toNat_testBit, Nat.shiftRight_eq_div_pow]
  apply BitVec.eq_of_toNat_eq
  rw [shiftBit_eq, BitVec.toNat_ofNat, BitVec.toNat_ushiftRight, BitVec.toNat_ushiftRight, hbit, Nat.shiftRight_succ,
    Nat.div_add_mod]
  exact Nat.mod_eq_of_lt ((BitVec.toNat_ushiftRight b n) ▸ (b >>> n).isLt)

/-- R151: one bit before the eighth, and the falling edge after it. -/
theorem runAll_bit (hpor : s.porHigh = true) (hcs : s.csHigh = false) (hphase : s.spi.phase ≠ .idle) (hn : n ≤ 6)
    (hcount : s.spi.bitCount = 6 - n) (hshift : s.spi.shiftIn = b >>> (n + 2)) (edges : List Instr) :
    runAll (.sckEdge (.rising (b.getLsbD (n + 1))) :: .sckEdge .falling :: edges) s =
      runAll edges (s.modSpi (·.afterBits b (n + 1))) := by
  have hbit : shiftBit s.spi.shiftIn (b.getLsbD (n + 1)) = b >>> (n + 1) := hshift ▸ shiftBit_shiftRight b (n + 1)
  have hnext : s.spi.bitCount + 1 = 8 - (n + 1) := by omega
  have hpin : 7 - (8 - (n + 1)) = n + 1 - 1 := by omega
  have hrising := (exec_rising_of_selected hpor hcs hphase (b.getLsbD (n + 1))).trans
    (congrArg _ (State.sckRising_of_bit (by omega) _))
  have hfalling := exec_falling_of_selected (s := s.modSpi fun m =>
    { m with bitCount := m.bitCount + 1, shiftIn := shiftBit s.spi.shiftIn (b.getLsbD (n + 1)) }) hpor hcs hphase
  rw [runAll_cons hrising, runAll_cons hfalling]
  simp only [State.sckFalling, State.modSpi, Management.afterBits, hbit, hnext, hpin]

/-- R151: the first seven bits of a byte, each with the falling edge after it. -/
theorem runAll_upperEdges (hpor : s.porHigh = true) (hcs : s.csHigh = false) (hphase : s.spi.phase ≠ .idle)
    (hn : n ≤ 6) (hcount : s.spi.bitCount = 6 - n) (hshift : s.spi.shiftIn = b >>> (n + 2)) :
    runAll (upperEdges b (n + 1)) s = .next (s.modSpi (·.afterBits b 1)) := by
  induction n generalizing s with
  | zero => exact runAll_bit hpor hcs hphase hn hcount hshift []
  | succ n ih =>
    have hrest := ih (s := s.modSpi (·.afterBits b (n + 2))) hpor hcs hphase (by omega)
      (show 8 - (n + 2) = 6 - n by omega) rfl
    exact (runAll_bit hpor hcs hphase hn hcount hshift _).trans hrest

/-- R151: the eighth rising edge receives the byte. -/
theorem exec_lastBit (hpor : s.porHigh = true) (hcs : s.csHigh = false) (hphase : s.spi.phase ≠ .idle) :
    exec (.sckEdge (.rising (b.getLsbD 0))) (s.modSpi (·.afterBits b 1)) =
      .next ((s.modSpi (·.afterBits b 1)).receiveByte b) := by
  have hbyte : BitVec.ofNat 8 (2 * (b >>> 1).toNat + (b.getLsbD 0).toNat) = b := by
    rw [← shiftBit_eq, shiftBit_shiftRight, BitVec.ushiftRight_zero]
  have hexec := exec_sckEdge_of_lastBit (s := s.modSpi (·.afterBits b 1)) hpor hcs hphase rfl (b.getLsbD 0)
  exact hexec.trans (congrArg (fun x => Host.Outcome.next (State.receiveByte _ x)) hbyte)

/-- R151: the port between two bytes: no bit of the next one is received. -/
abbrev BetweenBytes (s : State) : Prop :=
  s.porHigh = true ∧ s.csHigh = false ∧ s.spi.phase ≠ .idle ∧ s.spi.bitCount = 0 ∧ s.spi.shiftIn = 0#8

theorem runAll_sevenBits (h : BetweenBytes s) (b : Byte) :
    runAll (upperEdges b 7) s = .next (s.modSpi (·.afterBits b 1)) := by
  obtain ⟨hpor, hcs, hphase, hcount, hshift⟩ := h
  exact runAll_upperEdges hpor hcs hphase le_rfl hcount (hshift.trans (BitVec.ushiftRight_eq_zero le_rfl).symm)

/-- R151: a byte within a frame, and the falling edge after it. -/
theorem runAll_byte (h : BetweenBytes s) (b : Byte) :
    runAll (bitEdges b 8) s = runAll [.sckEdge .falling] ((s.modSpi (·.afterBits b 1)).receiveByte b) := by
  obtain ⟨hpor, hcs, hphase, -⟩ := id h
  rw [bitEdges_succ, runAll_append (runAll_sevenBits h b), runAll_cons (exec_lastBit hpor hcs hphase)]

/-- R151, R152: the port once the bytes `bytes` of a frame that is not complete have been received. -/
def Management.afterBytes (m : Management) (bytes : List Byte) : Management :=
  { m with phase := .frame, frame := bytes, bitCount := 0, shiftIn := 0#8, outByte := 0x00#8, miso := some false,
           truncated := false }

theorem betweenBytes_afterBytes (hpor : s.porHigh = true) (hcs : s.csHigh = false) (bytes : List Byte) :
    BetweenBytes (s.modSpi (·.afterBytes bytes)) :=
  ⟨hpor, hcs, SpiPhase.noConfusion, rfl, rfl⟩

/-- R151: after the falling edge that follows a byte, MISO shows bit 7 of the 0x00 that follows. -/
theorem runAll_falling (h : BetweenBytes s) (hout : s.spi.outByte = 0x00#8) :
    runAll [.sckEdge .falling] s = .next (s.modSpi fun m => { m with miso := some false }) := by
  obtain ⟨hpor, hcs, hphase, hcount, -⟩ := h
  rw [runAll_cons (exec_falling_of_selected hpor hcs hphase), runAll]
  simp [State.sckFalling, State.modSpi, hcount, hout]

/-- R151, R153: byte 0 of a frame. -/
theorem runAll_code {code : Byte} (h : BetweenBytes s) (hphase : s.spi.phase = .summary)
    (hassigned : argumentBytes code ≠ none) :
    runAll (bitEdges code 8) s = .next (s.modSpi (·.afterBytes [code])) := by
  obtain ⟨hpor, hcs, -⟩ := id h
  have hreceived := State.receiveByte_of_summary (s := s.modSpi (·.afterBits code 1)) hphase code
  rw [runAll_byte h, hreceived, State.modSpi, Management.receiveCode_of_assigned _ hassigned]
  refine (runAll_falling ?_ rfl).trans rfl
  exact ⟨hpor, hcs, SpiPhase.noConfusion, rfl, rfl⟩

/-- R151: a byte after byte 0, the frame not complete with it. -/
theorem runAll_argument (hpor : s.porHigh = true) (hcs : s.csHigh = false) {received : List Byte}
    (hincomplete : frameComplete (received ++ [b]) = false) :
    runAll (bitEdges b 8) (s.modSpi (·.afterBytes received)) = .next (s.modSpi (·.afterBytes (received ++ [b]))) := by
  have hreceived := State.receiveByte_of_incomplete
    (s := (s.modSpi (·.afterBytes received)).modSpi (·.afterBits b 1)) rfl hincomplete
  rw [runAll_byte (betweenBytes_afterBytes hpor hcs received), hreceived]
  refine (runAll_falling ?_ rfl).trans rfl
  exact ⟨hpor, hcs, SpiPhase.noConfusion, rfl, rfl⟩

/-- R151: the bytes after byte 0, the frame not complete with them. -/
theorem runAll_arguments (hpor : s.porHigh = true) (hcs : s.csHigh = false) {code : Byte} {count : Nat}
    (hcount : argumentBytes code = some count) (received rest : List Byte)
    (hincomplete : received.length + rest.length < count + 1) :
    runAll (rest.flatMap (bitEdges · 8)) (s.modSpi (·.afterBytes (code :: received))) =
      .next (s.modSpi (·.afterBytes (code :: received ++ rest))) := by
  induction rest generalizing received with
  | nil =>
    rw [List.append_nil]
    rfl
  | cons b rest ih =>
    rw [List.length_cons] at hincomplete
    have hopen : frameComplete (code :: received ++ [b]) = false := by
      refine frameComplete_eq_false ?_ (by simp)
      simp only [List.cons_append, List.getD_cons_zero, hcount, List.length_cons, List.length_append, List.length_nil,
        ne_eq, Option.some.injEq]
      omega
    have hrest := ih (received ++ [b]) (by simp only [List.length_append, List.length_singleton]; omega)
    rw [List.flatMap_cons, runAll_append (runAll_argument hpor hcs hopen), List.append_cons (code :: received) b rest]
    exact hrest

/-- R151: the edges of a frame, byte by byte, up to the rising edge of its last bit. -/
theorem frameEdges_append (bytes : List Byte) (last : Byte) :
    frameEdges (bytes ++ [last]) =
      bytes.flatMap (bitEdges · 8) ++ (upperEdges last 7 ++ [.sckEdge (.rising (last.getLsbD 0))]) := by
  rw [frameEdges, List.flatMap_append, List.flatMap_singleton, bitEdges_succ, List.dropLast_append_of_ne_nil (by simp),
    List.dropLast_append_of_ne_nil (by simp)]
  rfl

/-- The port in FRAME, with 0x00 as the byte being shifted out. -/
def Management.inFrame (m : Management) : Management := { m with phase := .frame, outByte := 0x00#8 }

/-- R152: with the last edge of a frame the frame is complete. -/
theorem runAll_frameEdges {code last : Byte} {args : List Byte} (h : BetweenBytes s) (hphase : s.spi.phase = .summary)
    (hcount : argumentBytes code = some args.length) :
    runAll (frameEdges (code :: args ++ [last])) s =
      .next ((s.modSpi Management.inFrame).completeFrame (code :: args ++ [last])
        (State.applyFrame (code :: args ++ [last]))) := by
  obtain ⟨hpor, hcs, -⟩ := id h
  have hbytes : runAll ((code :: args).flatMap (bitEdges · 8)) s = .next (s.modSpi (·.afterBytes (code :: args))) := by
    rw [List.flatMap_cons, runAll_append (runAll_code h hphase (by simp [hcount]))]
    exact runAll_arguments hpor hcs hcount [] args (by simp)
  have hlast := runAll_sevenBits (betweenBytes_afterBytes hpor hcs (code :: args)) last
  have hcomplete : frameComplete (code :: args ++ [last]) = true := by simp [frameComplete, hcount]
  have hreceived := State.receiveByte_of_complete
    (s := (s.modSpi (·.afterBytes (code :: args))).modSpi (·.afterBits last 1)) rfl hcomplete
  have hexec := exec_lastBit (s := s.modSpi (·.afterBytes (code :: args))) (b := last) hpor hcs SpiPhase.noConfusion
  rw [frameEdges_append, runAll_append hbytes, runAll_append hlast, runAll_cons hexec, hreceived]
  rfl

/-- R152, R157: whether the port is in SUMMARY or in FRAME makes no difference to a frame that is then complete. -/
theorem State.completeFrame_inFrame (s : State) (c : Instr) (frame : List Byte) :
    (s.modSpi Management.inFrame).completeFrame frame (commandOf c) = s.completeFrame frame (commandOf c) := by
  have hcommand := commandOf_modSpi (f := Management.inFrame) (fun _ => rfl) c
    (s.modSpi fun m => { m with frame := frame, truncated := false, bitCount := 0, shiftIn := 0#8, miso := some false })
  have hreceived : ((s.modSpi Management.inFrame).modSpi fun m =>
      { m with frame := frame, truncated := false, bitCount := 0, shiftIn := 0#8, miso := some false }) =
    (s.modSpi fun m =>
      { m with frame := frame, truncated := false, bitCount := 0, shiftIn := 0#8, miso := some false }).modSpi
        Management.inFrame := rfl
  rw [State.completeFrame_eq, State.completeFrame_eq, hreceived, hcommand]
  rfl

/-- R151, R152: just after CSn has fallen the port awaits every frame. -/
theorem Management.awaits_of_empty {m : Management} (hphase : m.phase = .summary) (hempty : m.frame = [])
    (hcount : m.bitCount = 0) (hshift : m.shiftIn = 0#8) {frame : List Byte} (hframe : 0 < frame.length) :
    m.awaits frame = true := by
  have hbits (b : Byte) : b.toNat >>> 8 = 0 := Nat.shiftRight_eq_zero _ _ b.isLt
  simp [Management.awaits, Management.bitsMatch, hphase, hempty, hcount, hshift, hframe, hbits]

/-- Settles O6: the bytes before the last leave the frame incomplete; the last one completes it, and its command is that of
the row it decodes to. -/
theorem shiftingInAFrameRunsItsCommand : Obligations.ShiftingInAFrameRunsItsCommand := by
  intro s c frame hframe hpor hcs hphase hempty hcount hshift
  obtain ⟨htwo, hdecoded⟩ := decodeFrame_of_frame hframe
  have hawaits := Management.awaits_of_empty hphase hempty hcount hshift (Nat.lt_of_lt_of_le Nat.zero_lt_two htwo)
  have hrow : exec c s = .next (s.completeFrame frame (commandOf c)) := by
    rw [exec_of_frame hframe, State.frameRow, if_pos (by simp [State.selected, hpor, hcs, hawaits])]
  obtain ⟨code, args, last, rfl⟩ : ∃ code args last, frame = code :: args ++ [last] := by
    obtain ⟨code, rest, rfl⟩ := List.exists_cons_of_length_pos (Nat.lt_of_lt_of_le Nat.zero_lt_two htwo)
    obtain ⟨args, last, rfl⟩ := rest.eq_nil_or_concat'.resolve_left (by rintro rfl; simp at htwo)
    exact ⟨code, args, last, rfl⟩
  have hargs : argumentBytes code = some args.length := by
    simpa using argumentBytes_of_decoded hdecoded
  rw [runAll_frameEdges ⟨hpor, hcs, by simp [hphase], hcount, hshift⟩ hphase hargs, hrow,
    State.applyFrame_of_decoded hdecoded, State.completeFrame_inFrame]

end Shifting

end Sys2Proof.Machine

namespace Sys2Proof.Machine

open Sys2Proof

/-! ## Every command is answered or ignored, and keeps the queue of waiting commands -/

section Answered

variable {s t : State} {command : State → State × Answer}

theorem State.pending_of_quiet (h : t.quiet = s.quiet) : t.pending = s.pending := congrArg Prod.fst h

theorem State.settle_pending (s : State) : s.settle.pending = s.pending := State.pending_of_quiet s.settle_quiet

/-! ### The management port (R151 to R157) -/

/-- R157: a command row refuses, or takes the effect its rule gives, and no rule gives one on the queue of commands. -/
theorem commandOf_pending (c : Instr) (s : State) : (commandOf c s).1.pending = s.pending := by
  cases c with
  | openStream target r =>
    dsimp only [commandOf, State.openCommand]
    split
    · rfl
    · split <;> rfl
  | closeDrain target =>
    dsimp only [commandOf, State.closeDrainCommand]
    split
    · rfl
    · split
      · rfl
      · rfl
      · exact State.pending_of_quiet (State.beginDrain_quiet ..)
      · rfl
  | closeAbort target =>
    dsimp only [commandOf, State.closeAbortCommand]
    split
    · rfl
    · split
      · rfl
      · exact State.pending_of_quiet (State.abort_quiet ..)
      · exact State.pending_of_quiet (State.abort_quiet ..)
      · rfl
  | extend target frames =>
    dsimp only [commandOf, State.extendCommand]
    split
    · rfl
    · split <;> rfl
  | acknowledgeProducer target =>
    dsimp only [commandOf, State.acknowledgeProducerCommand]
    split
    · rfl
    · split_ifs <;> rfl
  | acknowledgeConsumer target =>
    dsimp only [commandOf, State.acknowledgeConsumerCommand]
    split
    · rfl
    · split_ifs <;> rfl
  | status target =>
    dsimp only [commandOf, State.statusCommand]
    split <;> rfl
  | takeNotice _ =>
    dsimp only [commandOf, State.takeNoticeCommand]
    split <;> rfl
  | bindPace line stream side packet =>
    dsimp only [commandOf, State.bindPaceCommand]
    split
    · split
      · rfl
      · split <;> rfl
    · rfl
  | unbindPace line =>
    dsimp only [commandOf, State.unbindPaceCommand]
    split
    · rfl
    · split <;> rfl
  | setIntegrity _ polynomial initial =>
    dsimp only [commandOf, State.setIntegrityCommand]
    split_ifs <;> rfl
  | setTimebase _ divider =>
    dsimp only [commandOf, State.setTimebaseCommand]
    split <;> rfl
  | _ => rfl

/-- R157: so does a complete frame, whether or not it decodes to a row. -/
theorem State.applyFrame_pending (frame : List Byte) (s : State) :
    (State.applyFrame frame s).1.pending = s.pending := by
  cases hdecoded : decodeFrame (frame.getD 0 0#8) (frame.getD 1 0#8) (frame.drop 2) with
  | none => rw [State.applyFrame_of_undecoded hdecoded]
  | some c => rw [State.applyFrame_of_decoded hdecoded, commandOf_pending]

/-- R152: completing a frame changes the port, beside what its command does. -/
theorem State.completeFrame_pending (hcommand : ∀ u : State, (command u).1.pending = u.pending) (frame : List Byte) :
    (s.completeFrame frame command).pending = s.pending :=
  hcommand _

theorem State.frameRow_pending (hcommand : ∀ u : State, (command u).1.pending = u.pending) (frame : List Byte) :
    (s.frameRow frame command).pending = s.pending := by
  unfold State.frameRow
  split
  · exact State.completeFrame_pending hcommand frame
  · rfl

/-- R151: a byte received changes the port, or completes a frame. -/
theorem State.receiveByte_pending (s : State) (b : Byte) : (s.receiveByte b).pending = s.pending := by
  unfold State.receiveByte
  dsimp only
  split
  · rfl
  · rfl
  · split
    · exact State.completeFrame_pending (State.applyFrame_pending _) _
    · rfl
  · rfl
  · rfl

theorem execSckEdge_pending {edge : SckEdge} (ht : execSckEdge edge s = .next t) : t.pending = s.pending := by
  obtain rfl := Host.Outcome.next.inj ht
  split
  · cases edge with
    | rising mosi =>
      dsimp only [State.sckRising]
      split
      · exact State.receiveByte_pending ..
      · rfl
    | falling => rfl
  · rfl

theorem execUnknown_pending {code : Byte} (ht : execUnknown code s = .next t) : t.pending = s.pending := by
  obtain rfl := Host.Outcome.next.inj ht
  split <;> rfl

/-! ### The pins and the timebase (R153, R154, R159 to R161) -/

theorem execPowerOnReset_pending (ht : execPowerOnReset s = .next t) : t.pending = s.pending := by
  obtain rfl := Host.Outcome.next.inj ht
  split
  · exact State.settle_pending _
  · rfl

theorem execPowerOnResetEnd_pending (ht : execPowerOnResetEnd s = .next t) : t.pending = s.pending := by
  obtain rfl := Host.Outcome.next.inj ht
  split <;> rfl

theorem execCsnFall_pending (ht : execCsnFall s = .next t) : t.pending = s.pending := by
  obtain rfl := Host.Outcome.next.inj ht
  split
  · split <;> rfl
  · rfl

/-- R160: a soft reset resets the blocks, posts STARTED and returns what is due. -/
theorem State.softReset_pending (s : State) : s.softReset.pending = s.pending :=
  State.settle_pending (s.resetBlocks.postStarted 2#32)

theorem execCsnRise_pending (ht : execCsnRise s = .next t) : t.pending = s.pending := by
  obtain rfl := Host.Outcome.next.inj ht
  split
  · rfl
  · split
    · dsimp only
      split
      · exact State.softReset_pending _
      · rfl
    · rfl

theorem execMicrosecondTick_pending (ht : execMicrosecondTick s = .next t) : t.pending = s.pending := by
  obtain rfl := Host.Outcome.next.inj ht
  split <;> rfl

/-! ### Every command -/

/-- Each meaning of the table ends in a next state: none faults and none is refused. -/
theorem exec_answers (c : Instr) (s : State) : ∃ t, exec c s = .next t := by
  cases c <;> exact ⟨_, rfl⟩

/-- A command never touches the commands that wait behind it. -/
theorem exec_pending (c : Instr) (ht : exec c s = .next t) : t.pending = s.pending := by
  cases hframe : c.frame with
  | some frame =>
    obtain rfl := Host.Outcome.next.inj ((exec_of_frame hframe s).symm.trans ht)
    exact State.frameRow_pending (commandOf_pending c) frame
  | none =>
    cases c with
    | powerOnReset => exact execPowerOnReset_pending ht
    | powerOnResetEnd => exact execPowerOnResetEnd_pending ht
    | csnFall => exact execCsnFall_pending ht
    | csnRise => exact execCsnRise_pending ht
    | unknown code => exact execUnknown_pending ht
    | sckEdge edge => exact execSckEdge_pending ht
    | microsecondTick => exact execMicrosecondTick_pending ht
    | requestTaken p dir addr beats => exact State.pending_of_quiet (execRequestTaken_quiet ht)
    | writeBeat p data enables => exact State.pending_of_quiet (execWriteBeat_quiet ht)
    | readBeat p => exact State.pending_of_quiet (execReadBeat_quiet ht)
    | holdTimerExpiry p => exact State.pending_of_quiet (execHoldTimerExpiry_quiet ht)
    | memoryWriteCompletion r => exact State.pending_of_quiet (execMemoryWriteCompletion_quiet ht)
    | memoryReadData data r => exact State.pending_of_quiet (execMemoryReadData_quiet ht)
    | _ => nomatch hframe

/-- Settles O3: each command has a next state, and a row, an edge, a pin, a tick and an event at the buses each leave
the queue. -/
theorem everyCommandCompletesAndKeepsTheQueue : Obligations.EveryCommandCompletesAndKeepsTheQueue := by
  intro c s
  obtain ⟨t, ht⟩ := exec_answers c s
  exact ⟨t, ht, exec_pending c ht⟩

/-- Settles O1: the front of the queue decides the branch of `step`, and replacing the queue twice leaves its rest. -/
theorem stepRunsTheFrontCommand : Obligations.StepRunsTheFrontCommand := by
  intro s c rest
  rfl

end Answered

end Sys2Proof.Machine
